-- ==== Sys2Proof/Word.lean ====
section
/-! DEFINITION. The words of SXBR2X: the 32-bit word that registers, SRC and DST hold (00_scope.md R7, R12),
the 64-bit pattern of a stored binary64 value (R11), and the two pixel memories' names (20_memory.md R70). -/

namespace Sys2Proof

/-- A 32-bit word: a register value, a pixel word, a transaction's DATA (R76, R101). -/
abbrev Word := BitVec 32

/-- A stored binary64 value, as its IEEE 754 bit pattern (R11, R147). -/
abbrev Binary64 := BitVec 64

/-- The two pixel memories (R71, R73). -/
inductive Space where
  | src
  | dst
  deriving DecidableEq, Repr

end Sys2Proof
end

