-- ==== Sys2Proof/Syntax.lean ====
section
/-! DEFINITION. The operations of SXBR2X: one constructor for each of the 48 rows of spec/opcode_table.json
(30_encoding.md R104 to R112), and the code words they are written in. -/

namespace Sys2Proof

/-- A code word of one of the two operation formats of R100: a HOSTTX of 64 bits or a STEP descriptor of 48 bits. -/
inductive Code where
  | hostTx (w : BitVec 64)
  | stepDesc (w : BitVec 48)
  deriving DecidableEq, Repr

/-- Why bits are no operation: their length is neither of the two of R100. -/
inductive DecodeReject where
  | noSuchFormat (nbits : Nat)
  deriving DecidableEq, Repr

/-- One operation. `off` and `data` are the OFFSET and DATA fields of R104; a read has no DATA operand (R105).
`x` and `y` are the X and Y fields of R109. In the reserved STEP rows `rsvd` is bits 43:40 and `low` the
reserved bits below the row's highest set one (R111, R112). -/
inductive Instr where
  | regRd (off : BitVec 28)
  | srcRd (off : BitVec 28)
  | dstRd (off : BitVec 28)
  | regWr (off : BitVec 28) (data : Word)
  | srcWr (off : BitVec 28) (data : Word)
  | dstWr (off : BitVec 28) (data : Word)
  | rsvdSpaceRd3 (off : BitVec 28)
  | rsvdSpaceRd4 (off : BitVec 28)
  | rsvdSpaceRd5 (off : BitVec 28)
  | rsvdSpaceRd6 (off : BitVec 28)
  | rsvdSpaceRd7 (off : BitVec 28)
  | rsvdSpaceWr3 (off : BitVec 28) (data : Word)
  | rsvdSpaceWr4 (off : BitVec 28) (data : Word)
  | rsvdSpaceWr5 (off : BitVec 28) (data : Word)
  | rsvdSpaceWr6 (off : BitVec 28) (data : Word)
  | rsvdSpaceWr7 (off : BitVec 28) (data : Word)
  | p1Blk (x : BitVec 20) (y : BitVec 20)
  | p2Tr (x : BitVec 20) (y : BitVec 20)
  | p2Bl (x : BitVec 20) (y : BitVec 20)
  | p3Px (x : BitVec 20) (y : BitVec 20)
  | rsvdOp0 (rsvd : BitVec 4) (x : BitVec 20) (y : BitVec 20)
  | rsvdOp5 (rsvd : BitVec 4) (x : BitVec 20) (y : BitVec 20)
  | rsvdOp6 (rsvd : BitVec 4) (x : BitVec 20) (y : BitVec 20)
  | rsvdOp7 (rsvd : BitVec 4) (x : BitVec 20) (y : BitVec 20)
  | rsvdOp8 (rsvd : BitVec 4) (x : BitVec 20) (y : BitVec 20)
  | rsvdOp9 (rsvd : BitVec 4) (x : BitVec 20) (y : BitVec 20)
  | rsvdOpA (rsvd : BitVec 4) (x : BitVec 20) (y : BitVec 20)
  | rsvdOpB (rsvd : BitVec 4) (x : BitVec 20) (y : BitVec 20)
  | rsvdOpC (rsvd : BitVec 4) (x : BitVec 20) (y : BitVec 20)
  | rsvdOpD (rsvd : BitVec 4) (x : BitVec 20) (y : BitVec 20)
  | rsvdOpE (rsvd : BitVec 4) (x : BitVec 20) (y : BitVec 20)
  | rsvdOpF (rsvd : BitVec 4) (x : BitVec 20) (y : BitVec 20)
  | rsvdP1BlkB43 (low : BitVec 3) (x : BitVec 20) (y : BitVec 20)
  | rsvdP1BlkB42 (low : BitVec 2) (x : BitVec 20) (y : BitVec 20)
  | rsvdP1BlkB41 (low : BitVec 1) (x : BitVec 20) (y : BitVec 20)
  | rsvdP1BlkB40 (x : BitVec 20) (y : BitVec 20)
  | rsvdP2TrB43 (low : BitVec 3) (x : BitVec 20) (y : BitVec 20)
  | rsvdP2TrB42 (low : BitVec 2) (x : BitVec 20) (y : BitVec 20)
  | rsvdP2TrB41 (low : BitVec 1) (x : BitVec 20) (y : BitVec 20)
  | rsvdP2TrB40 (x : BitVec 20) (y : BitVec 20)
  | rsvdP2BlB43 (low : BitVec 3) (x : BitVec 20) (y : BitVec 20)
  | rsvdP2BlB42 (low : BitVec 2) (x : BitVec 20) (y : BitVec 20)
  | rsvdP2BlB41 (low : BitVec 1) (x : BitVec 20) (y : BitVec 20)
  | rsvdP2BlB40 (x : BitVec 20) (y : BitVec 20)
  | rsvdP3PxB43 (low : BitVec 3) (x : BitVec 20) (y : BitVec 20)
  | rsvdP3PxB42 (low : BitVec 2) (x : BitVec 20) (y : BitVec 20)
  | rsvdP3PxB41 (low : BitVec 1) (x : BitVec 20) (y : BitVec 20)
  | rsvdP3PxB40 (x : BitVec 20) (y : BitVec 20)
  deriving DecidableEq, Repr

end Sys2Proof
end

