-- ==== Sys2Proof/WellFormed.lean ====
section
/-! DEFINITION. The well-formed operations, as far as their own fields tell (30_encoding.md R108, R111): every HOSTTX is
legal; a step operation's coordinates can lie in some output image; a reserved STEP row is never well formed.
The bounds X < OW and Y < OH of the image at hand are checked by the meanings (Machine/Ops.lean). -/

namespace Sys2Proof

/-- R111 with R118(b): some OW = 2W with W <= 65535 has X < OW. -/
def coordFits (v : BitVec 20) : Bool := decide (v.toNat < 131070)

/-- R111: the origin of a 2x2 block has even coordinates. -/
def coordEven (v : BitVec 20) : Bool := decide (v.toNat % 2 = 0)

/-- Well-formedness of one operation (R108, R111). -/
def Instr.wf : Instr → Bool
  | .regRd _ => true
  | .srcRd _ => true
  | .dstRd _ => true
  | .regWr _ _ => true
  | .srcWr _ _ => true
  | .dstWr _ _ => true
  | .rsvdSpaceRd3 _ => true
  | .rsvdSpaceRd4 _ => true
  | .rsvdSpaceRd5 _ => true
  | .rsvdSpaceRd6 _ => true
  | .rsvdSpaceRd7 _ => true
  | .rsvdSpaceWr3 _ _ => true
  | .rsvdSpaceWr4 _ _ => true
  | .rsvdSpaceWr5 _ _ => true
  | .rsvdSpaceWr6 _ _ => true
  | .rsvdSpaceWr7 _ _ => true
  | .p1Blk x y => coordEven x && coordEven y && coordFits x && coordFits y
  | .p2Tr x y => coordEven x && coordEven y && coordFits x && coordFits y
  | .p2Bl x y => coordEven x && coordEven y && coordFits x && coordFits y
  | .p3Px x y => coordFits x && coordFits y
  | .rsvdOp0 _ _ _ => false
  | .rsvdOp5 _ _ _ => false
  | .rsvdOp6 _ _ _ => false
  | .rsvdOp7 _ _ _ => false
  | .rsvdOp8 _ _ _ => false
  | .rsvdOp9 _ _ _ => false
  | .rsvdOpA _ _ _ => false
  | .rsvdOpB _ _ _ => false
  | .rsvdOpC _ _ _ => false
  | .rsvdOpD _ _ _ => false
  | .rsvdOpE _ _ _ => false
  | .rsvdOpF _ _ _ => false
  | .rsvdP1BlkB43 _ _ _ => false
  | .rsvdP1BlkB42 _ _ _ => false
  | .rsvdP1BlkB41 _ _ _ => false
  | .rsvdP1BlkB40 _ _ => false
  | .rsvdP2TrB43 _ _ _ => false
  | .rsvdP2TrB42 _ _ _ => false
  | .rsvdP2TrB41 _ _ _ => false
  | .rsvdP2TrB40 _ _ => false
  | .rsvdP2BlB43 _ _ _ => false
  | .rsvdP2BlB42 _ _ _ => false
  | .rsvdP2BlB41 _ _ _ => false
  | .rsvdP2BlB40 _ _ => false
  | .rsvdP3PxB43 _ _ _ => false
  | .rsvdP3PxB42 _ _ _ => false
  | .rsvdP3PxB41 _ _ _ => false
  | .rsvdP3PxB40 _ _ => false

end Sys2Proof
end

