-- ==== Sys2Proof/Decode.lean ====
section
/-! DEFINITION. Decoding and encoding of the HOSTTX and STEP formats (30_encoding.md R104 to R112). Decoding is total on
both formats; bits of another length are rejected by name. The encoder follows the same tables. -/

namespace Sys2Proof

/-- The OFFSET field of a HOSTTX (R104). -/
def txOffset (w : BitVec 64) : BitVec 28 := w.extractLsb' 32 28

/-- The DATA field of a HOSTTX (R104). -/
def txData (w : BitVec 64) : Word := w.extractLsb' 0 32

/-- Bits 63:60 of a HOSTTX: WR above SPACE (R104, R106). -/
def txKind (w : BitVec 64) : BitVec 4 := w.extractLsb' 60 4

/-- The OP field of a STEP descriptor (R109). -/
def stepOp (w : BitVec 48) : BitVec 4 := w.extractLsb' 44 4

/-- The reserved bits 43:40 of a STEP descriptor (R109). -/
def stepReserved (w : BitVec 48) : BitVec 4 := w.extractLsb' 40 4

/-- The Y field of a STEP descriptor (R109). -/
def stepY (w : BitVec 48) : BitVec 20 := w.extractLsb' 20 20

/-- The X field of a STEP descriptor (R109). -/
def stepX (w : BitVec 48) : BitVec 20 := w.extractLsb' 0 20

/-- Decoding of a HOSTTX by WR and SPACE (R106, R108, R112). -/
def decodeHostTx (w : BitVec 64) : Instr :=
  match (txKind w).toNat with
  | 0 => .regRd (txOffset w)
  | 1 => .srcRd (txOffset w)
  | 2 => .dstRd (txOffset w)
  | 3 => .rsvdSpaceRd3 (txOffset w)
  | 4 => .rsvdSpaceRd4 (txOffset w)
  | 5 => .rsvdSpaceRd5 (txOffset w)
  | 6 => .rsvdSpaceRd6 (txOffset w)
  | 7 => .rsvdSpaceRd7 (txOffset w)
  | 8 => .regWr (txOffset w) (txData w)
  | 9 => .srcWr (txOffset w) (txData w)
  | 10 => .dstWr (txOffset w) (txData w)
  | 11 => .rsvdSpaceWr3 (txOffset w) (txData w)
  | 12 => .rsvdSpaceWr4 (txOffset w) (txData w)
  | 13 => .rsvdSpaceWr5 (txOffset w) (txData w)
  | 14 => .rsvdSpaceWr6 (txOffset w) (txData w)
  | _ => .rsvdSpaceWr7 (txOffset w) (txData w)

/-- Splits OP 1 to 4 by the highest set bit of the reserved bits 43:40 (R111, R112). -/
def splitReserved (r : BitVec 4) (clear : Instr) (b43 : BitVec 3 → Instr) (b42 : BitVec 2 → Instr)
    (b41 : BitVec 1 → Instr) (b40 : Instr) : Instr :=
  if r.getLsbD 3 then b43 (r.extractLsb' 0 3)
  else if r.getLsbD 2 then b42 (r.extractLsb' 0 2)
  else if r.getLsbD 1 then b41 (r.extractLsb' 0 1)
  else if r.getLsbD 0 then b40
  else clear

/-- Decoding of a STEP descriptor by OP and the reserved bits (R110, R111, R112). -/
def decodeStepDesc (w : BitVec 48) : Instr :=
  match (stepOp w).toNat with
  | 0 => .rsvdOp0 (stepReserved w) (stepX w) (stepY w)
  | 1 => splitReserved (stepReserved w) (.p1Blk (stepX w) (stepY w)) (fun l => .rsvdP1BlkB43 l (stepX w) (stepY w))
      (fun l => .rsvdP1BlkB42 l (stepX w) (stepY w)) (fun l => .rsvdP1BlkB41 l (stepX w) (stepY w)) (.rsvdP1BlkB40 (stepX w) (stepY w))
  | 2 => splitReserved (stepReserved w) (.p2Tr (stepX w) (stepY w)) (fun l => .rsvdP2TrB43 l (stepX w) (stepY w))
      (fun l => .rsvdP2TrB42 l (stepX w) (stepY w)) (fun l => .rsvdP2TrB41 l (stepX w) (stepY w)) (.rsvdP2TrB40 (stepX w) (stepY w))
  | 3 => splitReserved (stepReserved w) (.p2Bl (stepX w) (stepY w)) (fun l => .rsvdP2BlB43 l (stepX w) (stepY w))
      (fun l => .rsvdP2BlB42 l (stepX w) (stepY w)) (fun l => .rsvdP2BlB41 l (stepX w) (stepY w)) (.rsvdP2BlB40 (stepX w) (stepY w))
  | 4 => splitReserved (stepReserved w) (.p3Px (stepX w) (stepY w)) (fun l => .rsvdP3PxB43 l (stepX w) (stepY w))
      (fun l => .rsvdP3PxB42 l (stepX w) (stepY w)) (fun l => .rsvdP3PxB41 l (stepX w) (stepY w)) (.rsvdP3PxB40 (stepX w) (stepY w))
  | 5 => .rsvdOp5 (stepReserved w) (stepX w) (stepY w)
  | 6 => .rsvdOp6 (stepReserved w) (stepX w) (stepY w)
  | 7 => .rsvdOp7 (stepReserved w) (stepX w) (stepY w)
  | 8 => .rsvdOp8 (stepReserved w) (stepX w) (stepY w)
  | 9 => .rsvdOp9 (stepReserved w) (stepX w) (stepY w)
  | 10 => .rsvdOpA (stepReserved w) (stepX w) (stepY w)
  | 11 => .rsvdOpB (stepReserved w) (stepX w) (stepY w)
  | 12 => .rsvdOpC (stepReserved w) (stepX w) (stepY w)
  | 13 => .rsvdOpD (stepReserved w) (stepX w) (stepY w)
  | 14 => .rsvdOpE (stepReserved w) (stepX w) (stepY w)
  | _ => .rsvdOpF (stepReserved w) (stepX w) (stepY w)

/-- Decoding is total: every code word is exactly one row's operation (R112). -/
def decode : Code → Instr
  | .hostTx w => decodeHostTx w
  | .stepDesc w => decodeStepDesc w

/-- Decoding of any bits: the length picks the format (R100), every other length is rejected by name. -/
def decodeBits (nbits w : Nat) : Except DecodeReject Instr :=
  if nbits = 64 then .ok (decode (.hostTx (BitVec.ofNat 64 w)))
  else if nbits = 48 then .ok (decode (.stepDesc (BitVec.ofNat 48 w)))
  else .error (.noSuchFormat nbits)

/-- The operation decoded from a table row's word of `nbits` bits (log 18). -/
def decodeTableWord (nbits w : Nat) : Option Instr := (decodeBits nbits w).toOption

/-- A HOSTTX from its fields (R104). -/
def hostTxWord (kind : BitVec 4) (off : BitVec 28) (data : Word) : Code := .hostTx (kind ++ off ++ data)

/-- A STEP descriptor from its fields (R109). -/
def stepWord (op rsvd : BitVec 4) (x y : BitVec 20) : Code := .stepDesc (op ++ rsvd ++ y ++ x)

/-- Encoding of an operation (R104, R106, R109 to R112); a read's DATA is 0 (R114). -/
def encode : Instr → Code
  | .regRd off => hostTxWord 0x0#4 off 0#32
  | .srcRd off => hostTxWord 0x1#4 off 0#32
  | .dstRd off => hostTxWord 0x2#4 off 0#32
  | .regWr off data => hostTxWord 0x8#4 off data
  | .srcWr off data => hostTxWord 0x9#4 off data
  | .dstWr off data => hostTxWord 0xA#4 off data
  | .rsvdSpaceRd3 off => hostTxWord 0x3#4 off 0#32
  | .rsvdSpaceRd4 off => hostTxWord 0x4#4 off 0#32
  | .rsvdSpaceRd5 off => hostTxWord 0x5#4 off 0#32
  | .rsvdSpaceRd6 off => hostTxWord 0x6#4 off 0#32
  | .rsvdSpaceRd7 off => hostTxWord 0x7#4 off 0#32
  | .rsvdSpaceWr3 off data => hostTxWord 0xB#4 off data
  | .rsvdSpaceWr4 off data => hostTxWord 0xC#4 off data
  | .rsvdSpaceWr5 off data => hostTxWord 0xD#4 off data
  | .rsvdSpaceWr6 off data => hostTxWord 0xE#4 off data
  | .rsvdSpaceWr7 off data => hostTxWord 0xF#4 off data
  | .p1Blk x y => stepWord 0x1#4 0#4 x y
  | .p2Tr x y => stepWord 0x2#4 0#4 x y
  | .p2Bl x y => stepWord 0x3#4 0#4 x y
  | .p3Px x y => stepWord 0x4#4 0#4 x y
  | .rsvdOp0 rsvd x y => stepWord 0x0#4 rsvd x y
  | .rsvdOp5 rsvd x y => stepWord 0x5#4 rsvd x y
  | .rsvdOp6 rsvd x y => stepWord 0x6#4 rsvd x y
  | .rsvdOp7 rsvd x y => stepWord 0x7#4 rsvd x y
  | .rsvdOp8 rsvd x y => stepWord 0x8#4 rsvd x y
  | .rsvdOp9 rsvd x y => stepWord 0x9#4 rsvd x y
  | .rsvdOpA rsvd x y => stepWord 0xA#4 rsvd x y
  | .rsvdOpB rsvd x y => stepWord 0xB#4 rsvd x y
  | .rsvdOpC rsvd x y => stepWord 0xC#4 rsvd x y
  | .rsvdOpD rsvd x y => stepWord 0xD#4 rsvd x y
  | .rsvdOpE rsvd x y => stepWord 0xE#4 rsvd x y
  | .rsvdOpF rsvd x y => stepWord 0xF#4 rsvd x y
  | .rsvdP1BlkB43 low x y => stepWord 0x1#4 (0b1#1 ++ low) x y
  | .rsvdP1BlkB42 low x y => stepWord 0x1#4 (0b01#2 ++ low) x y
  | .rsvdP1BlkB41 low x y => stepWord 0x1#4 (0b001#3 ++ low) x y
  | .rsvdP1BlkB40 x y => stepWord 0x1#4 0b0001#4 x y
  | .rsvdP2TrB43 low x y => stepWord 0x2#4 (0b1#1 ++ low) x y
  | .rsvdP2TrB42 low x y => stepWord 0x2#4 (0b01#2 ++ low) x y
  | .rsvdP2TrB41 low x y => stepWord 0x2#4 (0b001#3 ++ low) x y
  | .rsvdP2TrB40 x y => stepWord 0x2#4 0b0001#4 x y
  | .rsvdP2BlB43 low x y => stepWord 0x3#4 (0b1#1 ++ low) x y
  | .rsvdP2BlB42 low x y => stepWord 0x3#4 (0b01#2 ++ low) x y
  | .rsvdP2BlB41 low x y => stepWord 0x3#4 (0b001#3 ++ low) x y
  | .rsvdP2BlB40 x y => stepWord 0x3#4 0b0001#4 x y
  | .rsvdP3PxB43 low x y => stepWord 0x4#4 (0b1#1 ++ low) x y
  | .rsvdP3PxB42 low x y => stepWord 0x4#4 (0b01#2 ++ low) x y
  | .rsvdP3PxB41 low x y => stepWord 0x4#4 (0b001#3 ++ low) x y
  | .rsvdP3PxB40 x y => stepWord 0x4#4 0b0001#4 x y

end Sys2Proof
end

