-- ==== Sys2Proof/Config.lean ====
section
/-! DEFINITION. What an implementation fixes and what the spec leaves free. Each opaque constant has no body:
nothing can be proved about its value. -/

namespace Sys2Proof

/-- Fixes the OPEN parameter MAX_SRC_PIXELS (R7, I6, log 3): an integer from 1 to 2^26, held here less one. -/
opaque Config.capacityIndex : Fin 67108864

/-- MAX_SRC_PIXELS (R7): 1 <= MAX_SRC_PIXELS <= 2^26, otherwise unknown. -/
def Config.maxSrcPixels : Nat := Config.capacityIndex.val + 1

/-- FREE VALUE (I1, I2, I14, log 2): the word that a memory holds at an index after the n-th reset until it is written. -/
opaque Config.resetWord : Nat → Space → Nat → Word

/-- FREE VALUE (I4, log 7): the n-th word drawn by a DST_RD while BUSY = 1. -/
opaque Config.busyDstRead : Nat → Word

end Sys2Proof
end

