-- ==== Sys2Proof/Machine/State.lean ====
section
/-! DEFINITION. The state of SXBR2X (10_state.md R30 to R48) as plain data, the turns of the outside world, the reasons a
step can stop, and the state after reset. -/

namespace Sys2Proof.Machine

/-- PHASE, the orchestrator state (R40). -/
inductive Phase where
  | idle
  | p1
  | p2
  | p3
  deriving DecidableEq, Repr

/-- SUB of the step pointer: the cell of the block that pass 2 computes next (R41). -/
inductive Sub where
  | tr
  | bl
  deriving DecidableEq, Repr

/-- SP, the step pointer (SX, SY, SUB) (R41). -/
structure StepPointer where
  x : BitVec 20
  y : BitVec 20
  sub : Sub
  deriving DecidableEq, Repr

/-- WP, six stored binary64 values WP[0] to WP[5] (R42). -/
structure WeightVector where
  w0 : Binary64
  w1 : Binary64
  w2 : Binary64
  w3 : Binary64
  w4 : Binary64
  w5 : Binary64
  deriving DecidableEq, Repr

/-- WAB, the coefficient pair (WA, WB) (R43). -/
structure CoeffPair where
  wa : Binary64
  wb : Binary64
  deriving DecidableEq, Repr

/-- The words of a pixel memory that have been written since reset, by word index. Canonical form: `Memory.wf`
(indices strictly rising). An index not listed holds no written word (log 1, log 2). -/
abbrev Memory := List (Nat × Word)

/-- One coming turn of the machine's agents (R4, R82, R350, R359; log 9). -/
inductive Input where
  /-- HOST issues a transaction (R104, R290). -/
  | host (w : BitVec 64)
  /-- CORE takes its next step, if it has one (R270, R340). -/
  | core
  /-- Reset is applied (R350, R351). -/
  | reset
  /-- A STEP descriptor of the model's own stream (R111, I7; log 10). The hardware has no such input. -/
  | desc (w : BitVec 48)
  deriving DecidableEq, Repr

/-- What one step of the machine does. -/
inductive Turn where
  /-- CORE has no step: PHASE = IDLE (R270, R340). -/
  | nothing
  /-- Reset is applied (R350). -/
  | reset
  /-- An operation runs by itself: a host transaction, or a descriptor of the model's own stream. -/
  | run (i : Instr)
  /-- The orchestrator issues a step operation and then moves its step pointer (R270). -/
  | issued (i : Instr)
  deriving DecidableEq, Repr

/-- Why the machine stops with a fault. -/
inductive Fault where
  /-- Raised by P1_BLK, P2_TR, P2_BL and P3_PX when one of their reads or writes lies beyond SRC or DST. CORE never forms
  such an offset in an accepted run (R74, R177), so only a descriptor of the model's own stream raises it. Safe (log 11). -/
  | coreOffsetOutOfRange
  deriving DecidableEq, Repr

/-- Why the machine refuses an operation. -/
inductive Refusal where
  /-- Raised by `exec`'s arm of an operation that has no meaning yet, with its row's mnemonic; no arm is left so. Safe. -/
  | notModelled (mnemonic : String)
  /-- Raised by the 28 reserved STEP rows, which a model must refuse (R111, I7). Safe. -/
  | reservedStep
  /-- Raised by P1_BLK, P2_TR, P2_BL and P3_PX on coordinates that break the constraint of their OP, which a model must
  refuse (R111, I7). Safe. -/
  | illFormedStep
  deriving DecidableEq, Repr

/-- The state of the machine: the tuple of R30 and, below it, the model's own fields. -/
structure State where
  /-- CTRL.IRQ_EN (R33). CTRL.START holds no value: it reads 0. -/
  irqEn : Bool
  /-- STATUS.DONE (R34). STATUS.BUSY and STATUS.PASS are computed from PHASE (R40). -/
  done : Bool
  /-- STATUS.ERR (R34). -/
  err : Bool
  /-- STATUS.ERRCODE (R34). -/
  errcode : BitVec 4
  /-- WIDTH.W (R35). -/
  width : BitVec 16
  /-- HEIGHT.H (R36). -/
  height : BitVec 16
  /-- SRC_LEN (R37). -/
  srcLen : BitVec 32
  /-- MAX_SRC_PIXELS, the value CAPACITY is hardwired to (R7, R38); no step changes it. -/
  capacity : Nat
  /-- PHASE (R40). -/
  phase : Phase
  /-- SP (R41). -/
  sp : StepPointer
  /-- WP (R42). -/
  wp : WeightVector
  /-- WAB (R43). -/
  wab : CoeffPair
  /-- SRC (R45). -/
  src : Memory
  /-- DST (R46). -/
  dst : Memory
  /-- The model's own: the coming turns in order; when it is empty every step is a turn of CORE (log 9). -/
  inputs : List Input
  /-- The model's own: the word the latest host transaction returned, none after a write (R107; log 8). -/
  rdata : Option Word
  /-- The model's own: how many free words DST_RD has drawn while BUSY = 1 (I4; log 7). -/
  draws : Nat
  /-- The model's own: how many resets have been applied; it names the unspecified memory contents (I1; log 2, log 14). -/
  resets : Nat
  deriving DecidableEq, Repr

/-- The machine right after reset (R48, R350). SP, WP and WAB are unspecified there and have no effect: zero is the model's
choice (log 5). -/
def State.reset : State where
  irqEn := false
  done := false
  err := false
  errcode := 0#4
  width := 0#16
  height := 0#16
  srcLen := 0#32
  capacity := Config.maxSrcPixels
  phase := .idle
  sp := ⟨0#20, 0#20, .tr⟩
  wp := ⟨0#64, 0#64, 0#64, 0#64, 0#64, 0#64⟩
  wab := ⟨0#64, 0#64⟩
  src := []
  dst := []
  inputs := []
  rdata := none
  draws := 0
  resets := 0

end Sys2Proof.Machine
end

