-- ==== Sys2Proof/Machine/Pixel.lean ====
section
/-! DEFINITION. The pixel word: its four channels and their packing (30_encoding.md R101 to R103), and the exact integer
primitives (40_primitives.md R141, R142, R150, R152). -/

namespace Sys2Proof.Machine

/-- The four channels of a pixel (R16, R101). -/
inductive Channel where
  | r
  | g
  | b
  | a
  deriving DecidableEq, Repr

/-- R(p), G(p), B(p), A(p): a channel of a pixel word as an unsigned integer (R102). -/
def channelOf (c : Channel) (p : Word) : Nat :=
  match c with
  | .r => (p.extractLsb' 0 8).toNat
  | .g => (p.extractLsb' 8 8).toNat
  | .b => (p.extractLsb' 16 8).toNat
  | .a => (p.extractLsb' 24 8).toNat

/-- pack(r, g, b, a) = {a[7:0], b[7:0], g[7:0], r[7:0]} (R103). -/
def pack (r g b a : Nat) : Word := BitVec.ofNat 8 a ++ BitVec.ofNat 8 b ++ BitVec.ofNat 8 g ++ BitVec.ofNat 8 r

/-- clampValue(x, low, high), with the max applied first (R141). -/
def clampValue (x low high : Int) : Int := min (max x low) high

/-- cclamp(v, n): a coordinate clamped to [0, n - 1] (R142). -/
def cclamp (v : Int) (n : Nat) : Int := clampValue v 0 ((n : Int) - 1)

/-- min4 (R152). -/
def min4 (a b c d : Nat) : Nat := min (min (min a b) c) d

/-- max4 (R152). -/
def max4 (a b c d : Nat) : Nat := max (max (max a b) c) d

end Sys2Proof.Machine
end

