-- ==== Sys2Proof/Machine/Binary64.lean ====
section
/-! DEFINITION. Binary64 arithmetic, rounded to nearest with ties to even (00_scope.md R11, 40_primitives.md R140, R143 to R147,
R151). A finite binary64 value is held as the integer number of units of 2^-1074 it is worth, so that comparison, `min`, `max`
and the ceiling are exact integer operations; every rounded operation computes the exact result and rounds it once.
Infinities, NaN, overflow and the sign of a zero are not held: none occurs or is observable (R146, I11; log 12). -/

namespace Sys2Proof.Machine

/-- The exact value `units * 2^-1074` of a binary64 number. -/
structure F64 where
  units : Int
  deriving DecidableEq, Repr

/-- The number of units in 1. -/
def unitsPerOne : Nat := 2 ^ 1074

/-- `p / 2^k` rounded to the nearest integer, ties to even. -/
def roundShift (p k : Nat) : Nat :=
  if 2 * (p % 2 ^ k) < 2 ^ k then p / 2 ^ k
  else if 2 ^ k < 2 * (p % 2 ^ k) then p / 2 ^ k + 1
  else p / 2 ^ k + p / 2 ^ k % 2

/-- The position of the highest set bit of `p < 2^(2^n)`, by halving. -/
def topBitBelow : Nat → Nat → Nat
  | 0, _ => 0
  | n + 1, p => if p / 2 ^ 2 ^ n = 0 then topBitBelow n p else 2 ^ n + topBitBelow n (p / 2 ^ 2 ^ n)

/-- The position of the highest set bit, `Nat.log2` in a form that evaluates in few steps (Laws/Binary64.lean: `topBit_eq_log2`). -/
def topBit (p : Nat) : Nat := if p < 2 ^ 2 ^ 12 then topBitBelow 12 p else Nat.log2 p

/-- How many low bits of a magnitude of `p / 2^s` units must be dropped so that an integer of units with at most 53
significant bits is left. -/
def droppedBits (p s : Nat) : Nat := max s (topBit p - 52)

/-- The binary64 magnitude nearest to `p / 2^s` units, ties to even (R11, R143). -/
def roundMagnitude (p s : Nat) : Nat := roundShift p (droppedBits p s) * 2 ^ (droppedBits p s - s)

/-- The binary64 value nearest to `n / 2^s` units, ties to even. -/
def F64.round (n : Int) (s : Nat) : F64 :=
  ⟨if n < 0 then -(roundMagnitude n.natAbs s : Int) else (roundMagnitude n.natAbs s : Int)⟩

/-- Binary64 addition, rounded (R11). -/
def F64.add (a b : F64) : F64 := F64.round (a.units + b.units) 0

/-- Binary64 subtraction, rounded (R11). -/
def F64.sub (a b : F64) : F64 := F64.round (a.units - b.units) 0

/-- Binary64 multiplication, rounded: the product counts units of 2^-2148 (R11). -/
def F64.mul (a b : F64) : F64 := F64.round (a.units * b.units) 1074

/-- fabs, exact (R11, R145). -/
def F64.abs (a : F64) : F64 := ⟨(a.units.natAbs : Int)⟩

/-- f64(n), the exact conversion of an integer (R11, R145). -/
def F64.ofInt (n : Int) : F64 := ⟨n * (unitsPerOne : Int)⟩

/-- ceil followed by the conversion to an integer, exact (R151). -/
def F64.ceil (a : F64) : Int := -((-a.units) / (unitsPerOne : Int))

/-- `a <= b` on exact values (R11). -/
def F64.le (a b : F64) : Bool := decide (a.units ≤ b.units)

/-- clampValue(x, low, high) of a binary64 value between two integers (R141). -/
def F64.clamp (x : F64) (low high : Int) : F64 :=
  ⟨clampValue x.units (F64.ofInt low).units (F64.ofInt high).units⟩

/-- lit(d) for the decimal literal `n / 10^d`: the nearest binary64 value, ties to even (R11, R147). -/
def F64.lit (n d : Nat) : F64 :=
  let q := n * unitsPerOne * 2 ^ 64 / 10 ^ d
  let sticky := if n * unitsPerOne * 2 ^ 64 % 10 ^ d = 0 then 0 else 1
  F64.round (2 * q + sticky : Nat) 65

/-- The value of a stored finite binary64 pattern. -/
def F64.ofBits (b : Binary64) : F64 :=
  let e := (b.extractLsb' 52 11).toNat
  let f := (b.extractLsb' 0 52).toNat
  let m := if e = 0 then f else (2 ^ 52 + f) * 2 ^ (e - 1)
  ⟨if b.getLsbD 63 then -(m : Int) else (m : Int)⟩

/-- The binary64 pattern of a representable value (zero as +0). -/
def F64.toBits (a : F64) : Binary64 :=
  let p := a.units.natAbs
  let k := topBit p - 52
  let mag := if p < 2 ^ 52 then p else (k + 1) * 2 ^ 52 + (p / 2 ^ k - 2 ^ 52)
  BitVec.ofNat 64 ((if a.units < 0 then 2 ^ 63 else 0) + mag)

/-- The value is a binary64 value: its magnitude in units has at most 53 significant bits. -/
def F64.representable (a : F64) : Bool :=
  decide (a.units.natAbs % 2 ^ (topBit a.units.natAbs - 52) = 0)

/-- df(a, b) = fabs(a - b) with a rounded difference (R140). -/
def df (a b : F64) : F64 := (a.sub b).abs

end Sys2Proof.Machine
end

