-- ==== Sys2Proof/Machine/Constants.lean ====
section
/-! DEFINITION. The algorithm's constants (00_scope.md R8), as the bit patterns the spec tabulates: the luma coefficients
(40_primitives.md R147), the weight vectors (42_edge.md R205) and the coefficient pairs (43_interp.md R226). -/

namespace Sys2Proof.Machine

/-- C_R = lit(0.2126) (R147). -/
def cR : Binary64 := 0x3FCB367A0F9096BC#64

/-- C_G = lit(0.7152) (R147). -/
def cG : Binary64 := 0x3FE6E2EB1C432CA5#64

/-- C_B = lit(0.0722) (R147). -/
def cB : Binary64 := 0x3FB27BB2FEC56D5D#64

/-- w1 = -lit(0.129633) (R226). -/
def w1 : Binary64 := 0xBFC097D06BBDBE3C#64

/-- w2 = lit(0.129633) + 0.5, rounded (R226). -/
def w2 : Binary64 := 0x3FE425F41AEF6F8F#64

/-- w3 = -lit(0.175068) (R226). -/
def w3 : Binary64 := 0xBFC668A0D349BE90#64

/-- w4 = lit(0.175068) + 0.5, rounded (R226). -/
def w4 : Binary64 := 0x3FE59A2834D26FA4#64

/-- WP_FULL = [2, 1, -1, 4, -1, 1] (R205). -/
def wpFull : WeightVector where
  w0 := 0x4000000000000000#64
  w1 := 0x3FF0000000000000#64
  w2 := 0xBFF0000000000000#64
  w3 := 0x4010000000000000#64
  w4 := 0xBFF0000000000000#64
  w5 := 0x3FF0000000000000#64

/-- WP_P2 = [2, 0, 0, 0, 0, 0] (R205). -/
def wpP2 : WeightVector where
  w0 := 0x4000000000000000#64
  w1 := 0#64
  w2 := 0#64
  w3 := 0#64
  w4 := 0#64
  w5 := 0#64

/-- (w1, w2), the coefficient pair of passes 1 and 3 (R226). -/
def wab12 : CoeffPair := ⟨w1, w2⟩

/-- (w3, w4), the coefficient pair of pass 2 (R226). -/
def wab34 : CoeffPair := ⟨w3, w4⟩

end Sys2Proof.Machine
end

