-- ==== Sys2Proof/Machine/Ops.lean ====
section
/-! DEFINITION. The named operations over memory, registers and the orchestrator state: SrcRead, SrcWrite, DstRead, DstWrite
(00_scope.md R12), the register reads and writes (45_host.md R291, R292), START (R300), the one exception and the way out of it
(60_exceptions.md R320 to R326), pass entry, step-pointer advance and completion (44_passes.md R270 to R272), and reset (R350). -/

namespace Sys2Proof.Machine

/-- The word written at an index since reset, if any. -/
def Memory.get? : Memory → Nat → Option Word
  | [], _ => none
  | (k, v) :: m, a => if a = k then some v else Memory.get? m a

/-- Writes a word at an index, keeping the indices rising. -/
def Memory.set : Memory → Nat → Word → Memory
  | [], a, v => [(a, v)]
  | (k, w) :: m, a, v =>
    if a < k then (a, v) :: (k, w) :: m
    else if a = k then (a, v) :: m
    else (k, w) :: Memory.set m a v

/-- The canonical form: indices strictly rising. -/
def Memory.wf : Memory → Bool
  | [] => true
  | [_] => true
  | (a, _) :: (b, w) :: m => decide (a < b) && Memory.wf ((b, w) :: m)

/-- Every written index lies below a bound. -/
def Memory.below (m : Memory) (n : Nat) : Bool := m.all fun c => decide (c.1 < n)

/-- SrcRead(k): the written word, or the free word the index has held since reset (R12, R45, I1). -/
def State.srcRead (s : State) (k : Nat) : Word := (Memory.get? s.src k).getD (Config.resetWord s.resets .src k)

/-- DstRead(k) (R12, R46, I1). -/
def State.dstRead (s : State) (k : Nat) : Word := (Memory.get? s.dst k).getD (Config.resetWord s.resets .dst k)

/-- SrcWrite(k, v) (R12). -/
def State.srcWrite (s : State) (k : Nat) (v : Word) : State := { s with src := Memory.set s.src k v }

/-- DstWrite(k, v) (R12). -/
def State.dstWrite (s : State) (k : Nat) (v : Word) : State := { s with dst := Memory.set s.dst k v }

/-- DST writes in the order given (R251). -/
def State.dstWrites (s : State) (ws : List (Nat × Word)) : State := ws.foldl (fun t w => t.dstWrite w.1 w.2) s

/-- OW = 2W (R16). -/
def State.outWidth (s : State) : Nat := 2 * s.width.toNat

/-- OH = 2H (R16). -/
def State.outHeight (s : State) : Nat := 2 * s.height.toNat

/-- A read returns one word to HOST (R107). -/
def State.respond (s : State) (v : Word) : State := { s with rdata := some v }

/-- A write returns nothing (R107). -/
def State.acknowledge (s : State) : State := { s with rdata := none }

/-- A read of a reserved space returns 0x00000000 (R108, R297). -/
def readReserved (s : State) : Host.Outcome State Fault Refusal := .next (s.respond 0#32)

/-- A write without effect (R108, R296, R297). -/
def writeIgnored (s : State) : Host.Outcome State Fault Refusal := .next s.acknowledge

/-- A reserved STEP descriptor is refused (R111, I7). -/
def refuseReserved (_s : State) : Host.Outcome State Fault Refusal := .refused .reservedStep

/-- STATUS.BUSY = (PHASE is not IDLE) (R40). -/
def State.busy (s : State) : Bool :=
  match s.phase with
  | .idle => false
  | .p1 => true
  | .p2 => true
  | .p3 => true

/-- STATUS.PASS (R40). -/
def State.pass (s : State) : BitVec 2 :=
  match s.phase with
  | .idle => 0#2
  | .p1 => 1#2
  | .p2 => 2#2
  | .p3 => 3#2

/-- What a read of CTRL returns: START reads 0 (R33). -/
def State.ctrlWord (s : State) : Word := 0#30 ++ BitVec.ofBool s.irqEn ++ 0#1

/-- What a read of STATUS returns (R34, R291). -/
def State.statusWord (s : State) : Word :=
  0#20 ++ s.errcode ++ 0#2 ++ s.pass ++ 0#1 ++ BitVec.ofBool s.err ++ BitVec.ofBool s.done ++ BitVec.ofBool s.busy

/-- What a REG_RD returns (R291); a reserved offset reads 0 (R32). -/
def State.regRead (s : State) (off : BitVec 28) : Word :=
  match off.toNat with
  | 0 => s.ctrlWord
  | 1 => s.statusWord
  | 2 => 0#16 ++ s.width
  | 3 => 0#16 ++ s.height
  | 4 => s.srcLen
  | 5 => BitVec.ofNat 32 s.capacity
  | _ => 0#32

/-- WP of a pass (R205, R271). While IDLE it has no effect and is never asked for. -/
def weightsOf (p : Phase) : WeightVector :=
  match p with
  | .idle => wpFull
  | .p1 => wpFull
  | .p2 => wpP2
  | .p3 => wpFull

/-- WAB of a pass (R226, R271). -/
def coeffsOf (p : Phase) : CoeffPair :=
  match p with
  | .idle => wab12
  | .p1 => wab12
  | .p2 => wab34
  | .p3 => wab12

/-- Pass entry: PHASE, SP, WP and WAB (R270, R271). -/
def State.enterPass (s : State) (p : Phase) (sp : StepPointer) : State :=
  { s with phase := p, sp := sp, wp := weightsOf p, wab := coeffsOf p }

/-- SP at the entry of passes 1 and 2 (R270). -/
def scanStart : StepPointer := ⟨0#20, 0#20, .tr⟩

/-- SP at the entry of pass 3: (OW - 1, OH - 1, TR) (R270). -/
def State.backwardStart (s : State) : StepPointer :=
  ⟨BitVec.ofNat 20 (s.outWidth - 1), BitVec.ofNat 20 (s.outHeight - 1), .tr⟩

/-- Completion: PHASE <- IDLE, so BUSY and PASS are 0, and DONE <- 1 (R272). -/
def State.complete (s : State) : State := { s with phase := .idle, done := true }

/-- The origin of the next block of a forward scan: two columns on, or the start of the row two below (R252, R255, R270). -/
def State.nextOrigin (s : State) : BitVec 20 × BitVec 20 :=
  if (s.sp.x + 2#20).toNat = s.outWidth then (0#20, s.sp.y + 2#20) else (s.sp.x + 2#20, s.sp.y)

/-- The block scan of passes 1 and 2 moves on by one block; after the last block the next pass is entered (R270). -/
def State.nextBlock (s : State) (next : Phase) (entry : StepPointer) : State :=
  if s.nextOrigin.2.toNat = s.outHeight then s.enterPass next entry
  else { s with sp := ⟨s.nextOrigin.1, s.nextOrigin.2, s.sp.sub⟩ }

/-- What the orchestrator does after the step operation it issued, in the same action (R270). -/
def State.advance (s : State) : State :=
  match s.phase, s.sp.sub with
  | .idle, _ => s
  | .p1, _ => s.nextBlock .p2 scanStart
  | .p2, .tr => { s with sp := ⟨s.sp.x, s.sp.y, .bl⟩ }
  | .p2, .bl => State.nextBlock { s with sp := ⟨s.sp.x, s.sp.y, .tr⟩ } .p3 s.backwardStart
  | .p3, _ =>
    if 0 < s.sp.x.toNat then { s with sp := ⟨s.sp.x - 1#20, s.sp.y, s.sp.sub⟩ }
    else if 0 < s.sp.y.toNat then { s with sp := ⟨BitVec.ofNat 20 (s.outWidth - 1), s.sp.y - 1#20, s.sp.sub⟩ }
    else s.complete

/-- TAKING THE EXCEPTION: raise PreconditionError(code) sets ERR and ERRCODE and nothing else (R322). -/
def State.raisePrecondition (s : State) (code : BitVec 4) : State := { s with err := true, errcode := code }

/-- LEAVING IT: ERR and ERRCODE are cleared together (R301, R325). -/
def State.clearError (s : State) : State := { s with err := false, errcode := 0#4 }

/-- DONE is cleared (R301). -/
def State.clearDone (s : State) : State := { s with done := false }

/-- Check(): the first precondition that fails, in this order, or 0 (R321, R323). -/
def State.precondition (s : State) : BitVec 4 :=
  if s.width.toNat = 0 then 1#4
  else if s.height.toNat = 0 then 2#4
  else if s.srcLen.toNat ≠ s.width.toNat * s.height.toNat then 3#4
  else if s.capacity < s.width.toNat * s.height.toNat then 4#4
  else 0#4

/-- START(): ignored while BUSY; otherwise DONE, ERR and ERRCODE are cleared, the preconditions checked, and the run either
refused or begun (R300). -/
def State.start (s : State) : State :=
  if s.busy then s
  else
    let t := s.clearDone.clearError
    if t.precondition = 0#4 then t.enterPass .p1 scanStart else t.raisePrecondition t.precondition

/-- A write of CTRL: IRQ_EN always, then START if asked for (R292, R302). -/
def State.writeCtrl (s : State) (data : Word) : State :=
  let t := { s with irqEn := data.getLsbD 1 }
  if data.getLsbD 0 then t.start else t

/-- A write of STATUS: write 1 to clear (R292, R301). -/
def State.writeStatus (s : State) (data : Word) : State :=
  let t := if data.getLsbD 1 then s.clearDone else s
  if data.getLsbD 2 then t.clearError else t

/-- A write of WIDTH, ignored while BUSY (R35, R292). -/
def State.writeWidth (s : State) (data : Word) : State :=
  if s.busy then s else { s with width := data.extractLsb' 0 16 }

/-- A write of HEIGHT, ignored while BUSY (R36, R292). -/
def State.writeHeight (s : State) (data : Word) : State :=
  if s.busy then s else { s with height := data.extractLsb' 0 16 }

/-- A write of SRC_LEN, ignored while BUSY (R37, R292). -/
def State.writeSrcLen (s : State) (data : Word) : State := if s.busy then s else { s with srcLen := data }

/-- The effect of a REG_WR on the registers (R292); CAPACITY and reserved offsets ignore it (R32, R38). -/
def State.regWrite (s : State) (off : BitVec 28) (data : Word) : State :=
  match off.toNat with
  | 0 => s.writeCtrl data
  | 1 => s.writeStatus data
  | 2 => s.writeWidth data
  | 3 => s.writeHeight data
  | 4 => s.writeSrcLen data
  | _ => s

/-- Reset, at any time (R350, R351): the registers take the values of R48 and the memories lose what was written, so that
every word holds a fresh free value. CAPACITY is hardwired; the coming turns are the outside world's and stay (log 14). -/
def State.applyReset (s : State) : State :=
  { State.reset with capacity := s.capacity, inputs := s.inputs, draws := s.draws, resets := s.resets + 1 }

/-- R111: the coordinates of P1_BLK, P2_TR and P2_BL are even and inside the output image. -/
def State.blockOk (s : State) (x y : BitVec 20) : Bool :=
  coordEven x && coordEven y && decide (x.toNat < s.outWidth) && decide (y.toNat < s.outHeight)

/-- R111: the coordinates of P3_PX are inside the output image. -/
def State.pixelOk (s : State) (x y : BitVec 20) : Bool :=
  decide (x.toNat < s.outWidth) && decide (y.toNat < s.outHeight)

end Sys2Proof.Machine
end

