-- ==== Sys2Proof/Machine/HostMem.lean ====
section
/-! DEFINITION. The pixel memories on the host port: SRC_RD, SRC_WR, DST_RD, DST_WR (45_host.md R293 to R296; 20_memory.md R74, R83). -/

namespace Sys2Proof.Machine

/-- SRC_RD OFF (R293): at any time; an offset beyond SRC reads 0. -/
def execSrcRd (off : BitVec 28) (s : State) : Host.Outcome State Fault Refusal :=
  .next (s.respond (if off.toNat < s.capacity then s.srcRead off.toNat else 0#32))

/-- SRC_WR OFF, DATA (R294): ignored while BUSY and beyond SRC. -/
def execSrcWr (off : BitVec 28) (data : Word) (s : State) : Host.Outcome State Fault Refusal :=
  .next (State.acknowledge (if !s.busy && decide (off.toNat < s.capacity) then s.srcWrite off.toNat data else s))

/-- A free word for a DST_RD while BUSY: the next of the draws (R83, R295, I4; log 7). -/
def State.drawDst (s : State) : State := { s.respond (Config.busyDstRead s.draws) with draws := s.draws + 1 }

/-- DST_RD OFF (R295): beyond DST 0; while BUSY any value; otherwise the word. -/
def execDstRd (off : BitVec 28) (s : State) : Host.Outcome State Fault Refusal :=
  .next (if 4 * s.capacity ≤ off.toNat then s.respond 0#32
    else if s.busy then s.drawDst
    else s.respond (s.dstRead off.toNat))

/-- DST_WR OFF, DATA (R296): no effect. -/
def execDstWr (_off : BitVec 28) (_data : Word) (s : State) : Host.Outcome State Fault Refusal := writeIgnored s

end Sys2Proof.Machine
end

