-- ==== Sys2Proof/Machine/HostReg.lean ====
section
/-! DEFINITION. The register space: REG_RD and REG_WR (45_host.md R291, R292, R300 to R303). -/

namespace Sys2Proof.Machine

/-- REG_RD OFF (R291): returns the register's word; no side effect. -/
def execRegRd (off : BitVec 28) (s : State) : Host.Outcome State Fault Refusal := .next (s.respond (s.regRead off))

/-- REG_WR OFF, DATA (R292): always completes and returns nothing. -/
def execRegWr (off : BitVec 28) (data : Word) (s : State) : Host.Outcome State Fault Refusal :=
  .next (s.regWrite off data).acknowledge

end Sys2Proof.Machine
end

