-- ==== Sys2Proof/Machine/HostReserved.lean ====
section
/-! DEFINITION. The reserved HOSTTX spaces (45_host.md R297, 30_encoding.md R108): legal, without effect; a read returns 0x00000000.
OFF and DATA are ignored. -/

namespace Sys2Proof.Machine

/-- RSVD_SPACE_RD_3 (R297): a read of reserved SPACE 3 returns 0x00000000. -/
def execRsvdSpaceRd3 (_off : BitVec 28) (s : State) : Host.Outcome State Fault Refusal := readReserved s

/-- RSVD_SPACE_RD_4 (R297): a read of reserved SPACE 4 returns 0x00000000. -/
def execRsvdSpaceRd4 (_off : BitVec 28) (s : State) : Host.Outcome State Fault Refusal := readReserved s

/-- RSVD_SPACE_RD_5 (R297): a read of reserved SPACE 5 returns 0x00000000. -/
def execRsvdSpaceRd5 (_off : BitVec 28) (s : State) : Host.Outcome State Fault Refusal := readReserved s

/-- RSVD_SPACE_RD_6 (R297): a read of reserved SPACE 6 returns 0x00000000. -/
def execRsvdSpaceRd6 (_off : BitVec 28) (s : State) : Host.Outcome State Fault Refusal := readReserved s

/-- RSVD_SPACE_RD_7 (R297): a read of reserved SPACE 7 returns 0x00000000. -/
def execRsvdSpaceRd7 (_off : BitVec 28) (s : State) : Host.Outcome State Fault Refusal := readReserved s

/-- RSVD_SPACE_WR_3 (R297): a write of reserved SPACE 3 has no effect. -/
def execRsvdSpaceWr3 (_off : BitVec 28) (_data : Word) (s : State) : Host.Outcome State Fault Refusal := writeIgnored s

/-- RSVD_SPACE_WR_4 (R297): a write of reserved SPACE 4 has no effect. -/
def execRsvdSpaceWr4 (_off : BitVec 28) (_data : Word) (s : State) : Host.Outcome State Fault Refusal := writeIgnored s

/-- RSVD_SPACE_WR_5 (R297): a write of reserved SPACE 5 has no effect. -/
def execRsvdSpaceWr5 (_off : BitVec 28) (_data : Word) (s : State) : Host.Outcome State Fault Refusal := writeIgnored s

/-- RSVD_SPACE_WR_6 (R297): a write of reserved SPACE 6 has no effect. -/
def execRsvdSpaceWr6 (_off : BitVec 28) (_data : Word) (s : State) : Host.Outcome State Fault Refusal := writeIgnored s

/-- RSVD_SPACE_WR_7 (R297): a write of reserved SPACE 7 has no effect. -/
def execRsvdSpaceWr7 (_off : BitVec 28) (_data : Word) (s : State) : Host.Outcome State Fault Refusal := writeIgnored s

end Sys2Proof.Machine
end

