-- ==== Sys2Proof/Machine/StepReserved.lean ====
section
/-! DEFINITION. The reserved STEP rows (30_encoding.md R111, R112; 93_implementation_defined.md I7): a model that executes a
descriptor stream of its own must refuse them and give them no meaning. -/

namespace Sys2Proof.Machine

/-- RSVD_OP_0 (R111, I7): reserved OP 0x0, refused. -/
def execRsvdOp0 (_rsvd : BitVec 4) (_x : BitVec 20) (_y : BitVec 20) (s : State) : Host.Outcome State Fault Refusal := refuseReserved s

/-- RSVD_OP_5 (R111, I7): reserved OP 0x5, refused. -/
def execRsvdOp5 (_rsvd : BitVec 4) (_x : BitVec 20) (_y : BitVec 20) (s : State) : Host.Outcome State Fault Refusal := refuseReserved s

/-- RSVD_OP_6 (R111, I7): reserved OP 0x6, refused. -/
def execRsvdOp6 (_rsvd : BitVec 4) (_x : BitVec 20) (_y : BitVec 20) (s : State) : Host.Outcome State Fault Refusal := refuseReserved s

/-- RSVD_OP_7 (R111, I7): reserved OP 0x7, refused. -/
def execRsvdOp7 (_rsvd : BitVec 4) (_x : BitVec 20) (_y : BitVec 20) (s : State) : Host.Outcome State Fault Refusal := refuseReserved s

/-- RSVD_OP_8 (R111, I7): reserved OP 0x8, refused. -/
def execRsvdOp8 (_rsvd : BitVec 4) (_x : BitVec 20) (_y : BitVec 20) (s : State) : Host.Outcome State Fault Refusal := refuseReserved s

/-- RSVD_OP_9 (R111, I7): reserved OP 0x9, refused. -/
def execRsvdOp9 (_rsvd : BitVec 4) (_x : BitVec 20) (_y : BitVec 20) (s : State) : Host.Outcome State Fault Refusal := refuseReserved s

/-- RSVD_OP_A (R111, I7): reserved OP 0xA, refused. -/
def execRsvdOpA (_rsvd : BitVec 4) (_x : BitVec 20) (_y : BitVec 20) (s : State) : Host.Outcome State Fault Refusal := refuseReserved s

/-- RSVD_OP_B (R111, I7): reserved OP 0xB, refused. -/
def execRsvdOpB (_rsvd : BitVec 4) (_x : BitVec 20) (_y : BitVec 20) (s : State) : Host.Outcome State Fault Refusal := refuseReserved s

/-- RSVD_OP_C (R111, I7): reserved OP 0xC, refused. -/
def execRsvdOpC (_rsvd : BitVec 4) (_x : BitVec 20) (_y : BitVec 20) (s : State) : Host.Outcome State Fault Refusal := refuseReserved s

/-- RSVD_OP_D (R111, I7): reserved OP 0xD, refused. -/
def execRsvdOpD (_rsvd : BitVec 4) (_x : BitVec 20) (_y : BitVec 20) (s : State) : Host.Outcome State Fault Refusal := refuseReserved s

/-- RSVD_OP_E (R111, I7): reserved OP 0xE, refused. -/
def execRsvdOpE (_rsvd : BitVec 4) (_x : BitVec 20) (_y : BitVec 20) (s : State) : Host.Outcome State Fault Refusal := refuseReserved s

/-- RSVD_OP_F (R111, I7): reserved OP 0xF, refused. -/
def execRsvdOpF (_rsvd : BitVec 4) (_x : BitVec 20) (_y : BitVec 20) (s : State) : Host.Outcome State Fault Refusal := refuseReserved s

/-- RSVD_P1_BLK_B43 (R111, I7): OP 1 with reserved bit 43 set, refused. -/
def execRsvdP1BlkB43 (_low : BitVec 3) (_x : BitVec 20) (_y : BitVec 20) (s : State) : Host.Outcome State Fault Refusal := refuseReserved s

/-- RSVD_P1_BLK_B42 (R111, I7): OP 1 with reserved bit 42 set, refused. -/
def execRsvdP1BlkB42 (_low : BitVec 2) (_x : BitVec 20) (_y : BitVec 20) (s : State) : Host.Outcome State Fault Refusal := refuseReserved s

/-- RSVD_P1_BLK_B41 (R111, I7): OP 1 with reserved bit 41 set, refused. -/
def execRsvdP1BlkB41 (_low : BitVec 1) (_x : BitVec 20) (_y : BitVec 20) (s : State) : Host.Outcome State Fault Refusal := refuseReserved s

/-- RSVD_P1_BLK_B40 (R111, I7): OP 1 with reserved bit 40 set, refused. -/
def execRsvdP1BlkB40 (_x : BitVec 20) (_y : BitVec 20) (s : State) : Host.Outcome State Fault Refusal := refuseReserved s

/-- RSVD_P2_TR_B43 (R111, I7): OP 2 with reserved bit 43 set, refused. -/
def execRsvdP2TrB43 (_low : BitVec 3) (_x : BitVec 20) (_y : BitVec 20) (s : State) : Host.Outcome State Fault Refusal := refuseReserved s

/-- RSVD_P2_TR_B42 (R111, I7): OP 2 with reserved bit 42 set, refused. -/
def execRsvdP2TrB42 (_low : BitVec 2) (_x : BitVec 20) (_y : BitVec 20) (s : State) : Host.Outcome State Fault Refusal := refuseReserved s

/-- RSVD_P2_TR_B41 (R111, I7): OP 2 with reserved bit 41 set, refused. -/
def execRsvdP2TrB41 (_low : BitVec 1) (_x : BitVec 20) (_y : BitVec 20) (s : State) : Host.Outcome State Fault Refusal := refuseReserved s

/-- RSVD_P2_TR_B40 (R111, I7): OP 2 with reserved bit 40 set, refused. -/
def execRsvdP2TrB40 (_x : BitVec 20) (_y : BitVec 20) (s : State) : Host.Outcome State Fault Refusal := refuseReserved s

/-- RSVD_P2_BL_B43 (R111, I7): OP 3 with reserved bit 43 set, refused. -/
def execRsvdP2BlB43 (_low : BitVec 3) (_x : BitVec 20) (_y : BitVec 20) (s : State) : Host.Outcome State Fault Refusal := refuseReserved s

/-- RSVD_P2_BL_B42 (R111, I7): OP 3 with reserved bit 42 set, refused. -/
def execRsvdP2BlB42 (_low : BitVec 2) (_x : BitVec 20) (_y : BitVec 20) (s : State) : Host.Outcome State Fault Refusal := refuseReserved s

/-- RSVD_P2_BL_B41 (R111, I7): OP 3 with reserved bit 41 set, refused. -/
def execRsvdP2BlB41 (_low : BitVec 1) (_x : BitVec 20) (_y : BitVec 20) (s : State) : Host.Outcome State Fault Refusal := refuseReserved s

/-- RSVD_P2_BL_B40 (R111, I7): OP 3 with reserved bit 40 set, refused. -/
def execRsvdP2BlB40 (_x : BitVec 20) (_y : BitVec 20) (s : State) : Host.Outcome State Fault Refusal := refuseReserved s

/-- RSVD_P3_PX_B43 (R111, I7): OP 4 with reserved bit 43 set, refused. -/
def execRsvdP3PxB43 (_low : BitVec 3) (_x : BitVec 20) (_y : BitVec 20) (s : State) : Host.Outcome State Fault Refusal := refuseReserved s

/-- RSVD_P3_PX_B42 (R111, I7): OP 4 with reserved bit 42 set, refused. -/
def execRsvdP3PxB42 (_low : BitVec 2) (_x : BitVec 20) (_y : BitVec 20) (s : State) : Host.Outcome State Fault Refusal := refuseReserved s

/-- RSVD_P3_PX_B41 (R111, I7): OP 4 with reserved bit 41 set, refused. -/
def execRsvdP3PxB41 (_low : BitVec 1) (_x : BitVec 20) (_y : BitVec 20) (s : State) : Host.Outcome State Fault Refusal := refuseReserved s

/-- RSVD_P3_PX_B40 (R111, I7): OP 4 with reserved bit 40 set, refused. -/
def execRsvdP3PxB40 (_x : BitVec 20) (_y : BitVec 20) (s : State) : Host.Outcome State Fault Refusal := refuseReserved s

end Sys2Proof.Machine
end

