-- ==== Sys2Proof/Machine/Operands.lean ====
section
/-! DEFINITION. The gather unit: the 4x4 neighborhood of a position, with border replication, and its luma
(40_primitives.md R148, R149; 41_gather.md R170 to R179). -/

namespace Sys2Proof.Machine

/-- A 4x4 matrix m[i][j]: the first index is the x offset, the second the y offset (R14). -/
abbrev Mat4 (α : Type) := Fin 4 → Fin 4 → α

/-- The four gather patterns (R170). -/
inductive Pattern where
  | p1
  | p2a
  | p2b
  | p3
  deriving DecidableEq, Repr

/-- The four channel matrices and the luma matrix of one gather (R44, R170). -/
structure Gathered where
  ch : Channel → Mat4 Nat
  luma : Mat4 F64

/-- Y(r, g, b), left to right (R148). -/
def luma (r g b : Nat) : F64 :=
  (((F64.ofBits cR).mul (F64.ofInt r)).add ((F64.ofBits cG).mul (F64.ofInt g))).add ((F64.ofBits cB).mul (F64.ofInt b))

/-- offset(pat, x, y, i, j): the unclamped (column, row) (R172 to R175). -/
def offset (pat : Pattern) (x y i j : Int) : Int × Int :=
  match pat with
  | .p1 => (x / 2 + (i - 1), y / 2 + (j - 1))
  | .p2a => (x + (i - 1) + (j - 1), y + (i - 1) - (j - 1))
  | .p2b => (x + (i - 1) + (j - 1) - 1, y + (i - 1) - (j - 1) + 1)
  | .p3 => (x + (i - 2), y + (j - 2))

/-- The (column, row) of sample (i, j), clamped into a buffer of `bw` by `bh` (R171, R178). -/
def gatherCell (pat : Pattern) (bw bh x y : Nat) (i j : Fin 4) : Int × Int :=
  (cclamp (offset pat x y i.val j.val).1 bw, cclamp (offset pat x y i.val j.val).2 bh)

/-- The word index k of sample (i, j) (R171). -/
def gatherIndex (pat : Pattern) (bw bh x y : Nat) (i j : Fin 4) : Nat :=
  ((gatherCell pat bw bh x y i j).2 * bw + (gatherCell pat bw bh x y i j).1).toNat

/-- The sixteen indices of one gather. -/
def gatherIndices (pat : Pattern) (bw bh x y : Nat) : List Nat :=
  [gatherIndex pat bw bh x y 0 0, gatherIndex pat bw bh x y 0 1, gatherIndex pat bw bh x y 0 2, gatherIndex pat bw bh x y 0 3,
   gatherIndex pat bw bh x y 1 0, gatherIndex pat bw bh x y 1 1, gatherIndex pat bw bh x y 1 2, gatherIndex pat bw bh x y 1 3,
   gatherIndex pat bw bh x y 2 0, gatherIndex pat bw bh x y 2 1, gatherIndex pat bw bh x y 2 2, gatherIndex pat bw bh x y 2 3,
   gatherIndex pat bw bh x y 3 0, gatherIndex pat bw bh x y 3 1, gatherIndex pat bw bh x y 3 2, gatherIndex pat bw bh x y 3 3]

/-- The channels and the luma of sixteen pixel words (R171). -/
def matricesOf (p : Mat4 Word) : Gathered where
  ch := fun c i j => channelOf c (p i j)
  luma := fun i j => luma (channelOf .r (p i j)) (channelOf .g (p i j)) (channelOf .b (p i j))

/-- The buffer a pattern reads: SRC for P1, DST for the others (R172 to R175, R179). -/
def bufferOf (pat : Pattern) : Space :=
  match pat with
  | .p1 => .src
  | .p2a => .dst
  | .p2b => .dst
  | .p3 => .dst

/-- The width bw of a buffer: W for SRC, OW for DST (R172, R173). -/
def State.bufferWidth (s : State) (b : Space) : Nat :=
  match b with
  | .src => s.width.toNat
  | .dst => s.outWidth

/-- The height bh of a buffer: H for SRC, OH for DST (R172, R173). -/
def State.bufferHeight (s : State) (b : Space) : Nat :=
  match b with
  | .src => s.height.toNat
  | .dst => s.outHeight

/-- The number of words of a memory (R45, R46, R71, R73). -/
def State.spaceSize (s : State) (b : Space) : Nat :=
  match b with
  | .src => s.capacity
  | .dst => 4 * s.capacity

/-- SrcRead or DstRead (R12, R171). -/
def State.bufferRead (s : State) (b : Space) (k : Nat) : Word :=
  match b with
  | .src => s.srcRead k
  | .dst => s.dstRead k

/-- GU(b, bw, bh, pat, x, y): the gather of a pattern at a position (R170, R171). It writes no state. -/
def State.gather (s : State) (pat : Pattern) (x y : Nat) : Gathered :=
  matricesOf fun i j => s.bufferRead (bufferOf pat)
    (gatherIndex pat (s.bufferWidth (bufferOf pat)) (s.bufferHeight (bufferOf pat)) x y i j)

/-- Every read of the gather lies inside its memory (R74, R177). -/
def State.gatherInRange (s : State) (pat : Pattern) (x y : Nat) : Bool :=
  (gatherIndices pat (s.bufferWidth (bufferOf pat)) (s.bufferHeight (bufferOf pat)) x y).all
    fun k => decide (k < s.spaceSize (bufferOf pat))

end Sys2Proof.Machine
end

