-- ==== Sys2Proof/Machine/Flags.lean ====
section
/-! DEFINITION. The one internal flag, sel (10_state.md R47), as the edge estimator computes it (42_edge.md R200 to R207), and the
interrupt level (60_exceptions.md R330). The STATUS flags BUSY, PASS, DONE and ERR are read and written in Machine/Ops.lean. -/

namespace Sys2Proof.Machine

/-- A0, direct diagonal neighbors (R201). -/
def edgeA0 (y : Mat4 F64) : F64 :=
  (((df (y 0 2) (y 1 1)).add (df (y 1 1) (y 2 0))).add (df (y 1 3) (y 2 2))).add (df (y 2 2) (y 3 1))

/-- A1, far corners (R201). -/
def edgeA1 (y : Mat4 F64) : F64 := (df (y 0 3) (y 1 2)).add (df (y 2 1) (y 3 0))

/-- A2, near corners (R201). -/
def edgeA2 (y : Mat4 F64) : F64 := (df (y 0 3) (y 2 1)).add (df (y 1 2) (y 3 0))

/-- A3, center pair (R201). -/
def edgeA3 (y : Mat4 F64) : F64 := df (y 1 2) (y 2 1)

/-- A4, outer corners (R201). -/
def edgeA4 (y : Mat4 F64) : F64 := (df (y 0 2) (y 2 0)).add (df (y 1 3) (y 3 1))

/-- A5, anti-diagonal pairs (R201). -/
def edgeA5 (y : Mat4 F64) : F64 := (df (y 0 1) (y 1 0)).add (df (y 2 3) (y 3 2))

/-- B0 (R202). -/
def edgeB0 (y : Mat4 F64) : F64 :=
  (((df (y 0 1) (y 1 2)).add (df (y 1 2) (y 2 3))).add (df (y 1 0) (y 2 1))).add (df (y 2 1) (y 3 2))

/-- B1 (R202). -/
def edgeB1 (y : Mat4 F64) : F64 := (df (y 0 0) (y 1 1)).add (df (y 2 2) (y 3 3))

/-- B2 (R202). -/
def edgeB2 (y : Mat4 F64) : F64 := (df (y 0 0) (y 2 2)).add (df (y 1 1) (y 3 3))

/-- B3 (R202). -/
def edgeB3 (y : Mat4 F64) : F64 := df (y 1 1) (y 2 2)

/-- B4 (R202). -/
def edgeB4 (y : Mat4 F64) : F64 := (df (y 1 0) (y 3 2)).add (df (y 0 1) (y 2 3))

/-- B5 (R202). -/
def edgeB5 (y : Mat4 F64) : F64 := (df (y 0 2) (y 1 3)).add (df (y 2 0) (y 3 1))

/-- The weighted sum of six terms, left to right, each product rounded before it is added (R144, R203). -/
def weightedSum (wp : WeightVector) (t0 t1 t2 t3 t4 t5 : F64) : F64 :=
  (((((((F64.ofBits wp.w0).mul t0).add ((F64.ofBits wp.w1).mul t1)).add ((F64.ofBits wp.w2).mul t2)).add
    ((F64.ofBits wp.w3).mul t3)).add ((F64.ofBits wp.w4).mul t4)).add ((F64.ofBits wp.w5).mul t5))

/-- dw1 (R203). -/
def dw1 (wp : WeightVector) (y : Mat4 F64) : F64 :=
  weightedSum wp (edgeA0 y) (edgeA1 y) (edgeA2 y) (edgeA3 y) (edgeA4 y) (edgeA5 y)

/-- dw2 (R203). -/
def dw2 (wp : WeightVector) (y : Mat4 F64) : F64 :=
  weightedSum wp (edgeB0 y) (edgeB1 y) (edgeB2 y) (edgeB3 y) (edgeB4 y) (edgeB5 y)

/-- d_edge = dw1 - dw2, rounded (R204). -/
def dEdge (wp : WeightVector) (y : Mat4 F64) : F64 := (dw1 wp y).sub (dw2 wp y)

/-- EE(Y, wp): sel = (d_edge <= 0) (R206). -/
def edgeSel (wp : WeightVector) (y : Mat4 F64) : Bool := (dEdge wp y).le (F64.ofInt 0)

/-- irq = IRQ_EN and (DONE or ERR), a level (R330). -/
def State.irq (s : State) : Bool := s.irqEn && (s.done || s.err)

end Sys2Proof.Machine
end

