-- ==== Sys2Proof/Machine/Interp.lean ====
section
/-! DEFINITION. The interpolation engine: blend, anti-ringing clamp, ceiling and quantizer, in that order (43_interp.md R220 to R228). -/

namespace Sys2Proof.Machine

/-- One blend: the corner sum with weight WA and the inner sum with weight WB; both products and the sum round (R221, R222). -/
def blend (wab : CoeffPair) (corner inner : Nat) : F64 :=
  ((F64.ofBits wab.wa).mul (F64.ofInt corner)).add ((F64.ofBits wab.wb).mul (F64.ofInt inner))

/-- v1, the anti-diagonal blend (R221). -/
def blendAnti (wab : CoeffPair) (m : Mat4 Nat) : F64 := blend wab (m 0 3 + m 3 0) (m 1 2 + m 2 1)

/-- v2, the main-diagonal blend (R222). -/
def blendMain (wab : CoeffPair) (m : Mat4 Nat) : F64 := blend wab (m 0 0 + m 3 3) (m 1 1 + m 2 2)

/-- acc, the blend that sel selects (R223). -/
def blendAcc (sel : Bool) (wab : CoeffPair) (m : Mat4 Nat) : F64 := if sel then blendAnti wab m else blendMain wab m

/-- lo, the least inner sample (R224). -/
def rangeLo (m : Mat4 Nat) : Nat := min4 (m 1 1) (m 2 1) (m 1 2) (m 2 2)

/-- hi, the greatest inner sample (R224). -/
def rangeHi (m : Mat4 Nat) : Nat := max4 (m 1 1) (m 2 1) (m 1 2) (m 2 2)

/-- f, the blend clamped to the local range (R225). -/
def antiRing (sel : Bool) (wab : CoeffPair) (m : Mat4 Nat) : F64 := (blendAcc sel wab m).clamp (rangeLo m) (rangeHi m)

/-- The saturating quantizer: ceiling, then the clamp to [0, 255] (R227). -/
def quantize (f : F64) : Nat := (clampValue f.ceil 0 255).toNat

/-- q, one channel of the new pixel (R221 to R227). -/
def interpChannel (sel : Bool) (wab : CoeffPair) (m : Mat4 Nat) : Nat := quantize (antiRing sel wab m)

/-- IE(ch, sel, (WA, WB)): the new pixel word; the same sel serves all four channels (R220, R228). -/
def interpolate (ch : Channel → Mat4 Nat) (sel : Bool) (wab : CoeffPair) : Word :=
  pack (interpChannel sel wab (ch .r)) (interpChannel sel wab (ch .g)) (interpChannel sel wab (ch .b))
    (interpChannel sel wab (ch .a))

/-- The pixel one step operation computes: gather, edge estimate, interpolation (R251, R253, R254, R256). -/
def State.newPixel (s : State) (pat : Pattern) (wp : WeightVector) (wab : CoeffPair) (x y : Nat) : Word :=
  interpolate (s.gather pat x y).ch (edgeSel wp (s.gather pat x y).luma) wab

end Sys2Proof.Machine
end

