-- ==== Sys2Proof/Machine/Steps.lean ====
section
/-! DEFINITION. The four step operations (44_passes.md R251, R253, R254, R256). Each gathers and computes from the state it starts in
and then writes DST (R80, R179, R273). The weight vector and coefficient pair are those the operation's rule names (log 13). -/

namespace Sys2Proof.Machine

/-- One step operation: refused where its coordinates break the constraint of its OP (R111), a fault where a read or write lies
beyond its memory (R74; log 11), otherwise its DST writes. -/
def runStep (s : State) (ok : Bool) (pat : Pattern) (x y : Nat) (writes : List (Nat × Word)) :
    Host.Outcome State Fault Refusal :=
  if !ok then .refused .illFormedStep
  else if !(s.gatherInRange pat x y && writes.all fun w => decide (w.1 < s.spaceSize .dst)) then
    .fault .coreOffsetOutOfRange
  else .next (s.dstWrites writes)

/-- The word index y*OW + x of an output cell (R13, R46). -/
def State.cellIndex (s : State) (x y : Nat) : Nat := y * s.outWidth + x

/-- P1_BLK X, Y (R251): TL, TR and BL are copies of the source pixel, BR is interpolated. -/
def execP1Blk (x y : BitVec 20) (s : State) : Host.Outcome State Fault Refusal :=
  runStep s (s.blockOk x y) .p1 x.toNat y.toNat
    [(s.cellIndex x.toNat y.toNat, s.srcRead (y.toNat / 2 * s.width.toNat + x.toNat / 2)),
     (s.cellIndex (x.toNat + 1) y.toNat, s.srcRead (y.toNat / 2 * s.width.toNat + x.toNat / 2)),
     (s.cellIndex x.toNat (y.toNat + 1), s.srcRead (y.toNat / 2 * s.width.toNat + x.toNat / 2)),
     (s.cellIndex (x.toNat + 1) (y.toNat + 1), s.newPixel .p1 wpFull wab12 x.toNat y.toNat)]

/-- P2_TR X, Y (R253): the top-right cell. -/
def execP2Tr (x y : BitVec 20) (s : State) : Host.Outcome State Fault Refusal :=
  runStep s (s.blockOk x y) .p2a x.toNat y.toNat
    [(s.cellIndex (x.toNat + 1) y.toNat, s.newPixel .p2a wpP2 wab34 x.toNat y.toNat)]

/-- P2_BL X, Y (R254): the bottom-left cell. -/
def execP2Bl (x y : BitVec 20) (s : State) : Host.Outcome State Fault Refusal :=
  runStep s (s.blockOk x y) .p2b x.toNat y.toNat
    [(s.cellIndex x.toNat (y.toNat + 1), s.newPixel .p2b wpP2 wab34 x.toNat y.toNat)]

/-- P3_PX X, Y (R256): the pixel is rewritten in place. -/
def execP3Px (x y : BitVec 20) (s : State) : Host.Outcome State Fault Refusal :=
  runStep s (s.pixelOk x y) .p3 x.toNat y.toNat
    [(s.cellIndex x.toNat y.toNat, s.newPixel .p3 wpFull wab12 x.toNat y.toNat)]

end Sys2Proof.Machine
end

