-- ==== Sys2Proof/Machine/Dispatch.lean ====
section
/-! DEFINITION. One arm per operation: its meaning. -/

namespace Sys2Proof.Machine

def exec (i : Instr) (s : State) : Host.Outcome State Fault Refusal :=
  match i with
  | .regRd off => Sys2Proof.Machine.execRegRd off s
  | .srcRd off => Sys2Proof.Machine.execSrcRd off s
  | .dstRd off => Sys2Proof.Machine.execDstRd off s
  | .regWr off data => Sys2Proof.Machine.execRegWr off data s
  | .srcWr off data => Sys2Proof.Machine.execSrcWr off data s
  | .dstWr off data => Sys2Proof.Machine.execDstWr off data s
  | .rsvdSpaceRd3 off => Sys2Proof.Machine.execRsvdSpaceRd3 off s
  | .rsvdSpaceRd4 off => Sys2Proof.Machine.execRsvdSpaceRd4 off s
  | .rsvdSpaceRd5 off => Sys2Proof.Machine.execRsvdSpaceRd5 off s
  | .rsvdSpaceRd6 off => Sys2Proof.Machine.execRsvdSpaceRd6 off s
  | .rsvdSpaceRd7 off => Sys2Proof.Machine.execRsvdSpaceRd7 off s
  | .rsvdSpaceWr3 off data => Sys2Proof.Machine.execRsvdSpaceWr3 off data s
  | .rsvdSpaceWr4 off data => Sys2Proof.Machine.execRsvdSpaceWr4 off data s
  | .rsvdSpaceWr5 off data => Sys2Proof.Machine.execRsvdSpaceWr5 off data s
  | .rsvdSpaceWr6 off data => Sys2Proof.Machine.execRsvdSpaceWr6 off data s
  | .rsvdSpaceWr7 off data => Sys2Proof.Machine.execRsvdSpaceWr7 off data s
  | .p1Blk x y => Sys2Proof.Machine.execP1Blk x y s
  | .p2Tr x y => Sys2Proof.Machine.execP2Tr x y s
  | .p2Bl x y => Sys2Proof.Machine.execP2Bl x y s
  | .p3Px x y => Sys2Proof.Machine.execP3Px x y s
  | .rsvdOp0 rsvd x y => Sys2Proof.Machine.execRsvdOp0 rsvd x y s
  | .rsvdOp5 rsvd x y => Sys2Proof.Machine.execRsvdOp5 rsvd x y s
  | .rsvdOp6 rsvd x y => Sys2Proof.Machine.execRsvdOp6 rsvd x y s
  | .rsvdOp7 rsvd x y => Sys2Proof.Machine.execRsvdOp7 rsvd x y s
  | .rsvdOp8 rsvd x y => Sys2Proof.Machine.execRsvdOp8 rsvd x y s
  | .rsvdOp9 rsvd x y => Sys2Proof.Machine.execRsvdOp9 rsvd x y s
  | .rsvdOpA rsvd x y => Sys2Proof.Machine.execRsvdOpA rsvd x y s
  | .rsvdOpB rsvd x y => Sys2Proof.Machine.execRsvdOpB rsvd x y s
  | .rsvdOpC rsvd x y => Sys2Proof.Machine.execRsvdOpC rsvd x y s
  | .rsvdOpD rsvd x y => Sys2Proof.Machine.execRsvdOpD rsvd x y s
  | .rsvdOpE rsvd x y => Sys2Proof.Machine.execRsvdOpE rsvd x y s
  | .rsvdOpF rsvd x y => Sys2Proof.Machine.execRsvdOpF rsvd x y s
  | .rsvdP1BlkB43 low x y => Sys2Proof.Machine.execRsvdP1BlkB43 low x y s
  | .rsvdP1BlkB42 low x y => Sys2Proof.Machine.execRsvdP1BlkB42 low x y s
  | .rsvdP1BlkB41 low x y => Sys2Proof.Machine.execRsvdP1BlkB41 low x y s
  | .rsvdP1BlkB40 x y => Sys2Proof.Machine.execRsvdP1BlkB40 x y s
  | .rsvdP2TrB43 low x y => Sys2Proof.Machine.execRsvdP2TrB43 low x y s
  | .rsvdP2TrB42 low x y => Sys2Proof.Machine.execRsvdP2TrB42 low x y s
  | .rsvdP2TrB41 low x y => Sys2Proof.Machine.execRsvdP2TrB41 low x y s
  | .rsvdP2TrB40 x y => Sys2Proof.Machine.execRsvdP2TrB40 x y s
  | .rsvdP2BlB43 low x y => Sys2Proof.Machine.execRsvdP2BlB43 low x y s
  | .rsvdP2BlB42 low x y => Sys2Proof.Machine.execRsvdP2BlB42 low x y s
  | .rsvdP2BlB41 low x y => Sys2Proof.Machine.execRsvdP2BlB41 low x y s
  | .rsvdP2BlB40 x y => Sys2Proof.Machine.execRsvdP2BlB40 x y s
  | .rsvdP3PxB43 low x y => Sys2Proof.Machine.execRsvdP3PxB43 low x y s
  | .rsvdP3PxB42 low x y => Sys2Proof.Machine.execRsvdP3PxB42 low x y s
  | .rsvdP3PxB41 low x y => Sys2Proof.Machine.execRsvdP3PxB41 low x y s
  | .rsvdP3PxB40 x y => Sys2Proof.Machine.execRsvdP3PxB40 x y s

end Sys2Proof.Machine
end

