-- ==== Sys2Proof/Machine/Orchestrator.lean ====
section
/-! DEFINITION. Whose turn it is and what it does: the step operation the orchestrator issues (44_passes.md R270), the host
transaction, reset or descriptor at the head of the coming turns (log 9, log 10), and the placing of a code word there. -/

namespace Sys2Proof.Machine

/-- The step operation CORE issues next, none while IDLE (R270). -/
def State.issue (s : State) : Option Instr :=
  match s.phase, s.sp.sub with
  | .idle, _ => none
  | .p1, _ => some (.p1Blk s.sp.x s.sp.y)
  | .p2, .tr => some (.p2Tr s.sp.x s.sp.y)
  | .p2, .bl => some (.p2Bl s.sp.x s.sp.y)
  | .p3, _ => some (.p3Px s.sp.x s.sp.y)

/-- A turn of CORE (R270, R340). -/
def State.coreTurn (s : State) : Turn :=
  match s.issue with
  | none => .nothing
  | some i => .issued i

/-- The next turn, and the state with that turn taken from the list. When the list is empty it is CORE's turn, so that CORE
always goes on (R359). -/
def State.fetch (s : State) : Turn × State :=
  match s.inputs with
  | [] => (s.coreTurn, s)
  | .core :: rest => (s.coreTurn, { s with inputs := rest })
  | .reset :: rest => (.reset, { s with inputs := rest })
  | .host w :: rest => (.run (decode (.hostTx w)), { s with inputs := rest })
  | .desc w :: rest => (.run (decode (.stepDesc w)), { s with inputs := rest })

/-- A step operation that CORE issued is followed, in the same atomic action, by the orchestrator's own transition (R270, R273). -/
def advanceAfter (o : Host.Outcome State Fault Refusal) : Host.Outcome State Fault Refusal :=
  match o with
  | .next s => .next s.advance
  | .fault f => .fault f
  | .refused r => .refused r

/-- What a turn does to the state. -/
def takeTurn (t : Turn) (s : State) : Host.Outcome State Fault Refusal :=
  match t with
  | .nothing => .next s
  | .reset => .next s.applyReset
  | .run i => exec i s
  | .issued i => advanceAfter (exec i s)

/-- A dimension large enough for a coordinate: `dim` itself when the coordinate is below 2*dim. -/
def growDim (dim : BitVec 16) (v : BitVec 20) : BitVec 16 :=
  if v.toNat < 2 * dim.toNat then dim else BitVec.ofNat 16 (v.toNat / 2 + 1)

/-- The state in a run at a given step: W and H hold the coordinates, the flags and SRC_LEN are those of an accepted START
(R300, R303), and CORE's turn comes next (log 15). -/
def State.armed (s : State) (p : Phase) (sp : StepPointer) : State :=
  let t := { s.clearDone.clearError.enterPass p sp with
    width := growDim s.width sp.x
    height := growDim s.height sp.y
    inputs := .core :: s.inputs }
  { t with srcLen := BitVec.ofNat 32 (t.width.toNat * t.height.toNat) }

/-- Places a STEP descriptor where the next step fetches it. A well-formed descriptor is what the orchestrator issues at its
PHASE and SP; any other can only come from the model's own descriptor stream (log 15). -/
def State.placeStepDesc (s : State) (w : BitVec 48) : State :=
  let own := { s with inputs := .desc w :: s.inputs }
  let i := decodeStepDesc w
  if i.wf then
    match (stepOp w).toNat with
    | 1 => s.armed .p1 ⟨stepX w, stepY w, .tr⟩
    | 2 => s.armed .p2 ⟨stepX w, stepY w, .tr⟩
    | 3 => s.armed .p2 ⟨stepX w, stepY w, .bl⟩
    | 4 => s.armed .p3 ⟨stepX w, stepY w, .tr⟩
    | _ => own
  else own

/-- Places a HOSTTX at the head of the coming turns. -/
def State.placeHostTx (s : State) (w : BitVec 64) : State := { s with inputs := .host w :: s.inputs }

end Sys2Proof.Machine
end

