-- ==== Sys2Proof/Machine/Step.lean ====
section
/-! DEFINITION. One step of the machine: one atomic action of HOST, of CORE or of reset (20_memory.md R82, 44_passes.md R273). -/

namespace Sys2Proof.Machine

/-- One step: the next turn is taken from the list and taken. -/
def step (s : State) : Host.Outcome State Fault Refusal := takeTurn s.fetch.1 s.fetch.2

/-- The state in which the next step fetches and runs the operation of a table row's word (log 15). -/
def State.withFetchWord (s : State) (nbits w : Nat) : State :=
  if nbits = 48 then s.placeStepDesc (BitVec.ofNat 48 w) else s.placeHostTx (BitVec.ofNat 64 w)

end Sys2Proof.Machine
end

