-- ==== Sys2Proof/Safety.lean ====
section
/-! DEFINITION. What a state reached by the hardware satisfies, and what a safe step is, in the terms the statements use. -/

namespace Sys2Proof.Machine

/-- The step pointer of a run names a step inside the image (R111, R252, R255, R257, R270). -/
def State.pointerOk (s : State) : Bool :=
  match s.phase with
  | .idle => true
  | .p1 => s.blockOk s.sp.x s.sp.y
  | .p2 => s.blockOk s.sp.x s.sp.y
  | .p3 => s.pixelOk s.sp.x s.sp.y

/-- The configuration an accepted START has checked, which cannot change during the run (R303, R321). -/
def State.configOk (s : State) : Bool :=
  decide (1 ≤ s.width.toNat) && decide (1 ≤ s.height.toNat) &&
    decide (s.srcLen.toNat = s.width.toNat * s.height.toNat) && decide (s.width.toNat * s.height.toNat ≤ s.capacity)

/-- The register invariants of R39, with ERRCODE at most 4 (R321, I10). -/
structure State.RegistersOk (s : State) : Prop where
  busy_clear : s.busy = true → s.done = false ∧ s.err = false ∧ s.errcode = 0#4 ∧ s.pass ≠ 0#2
  idle_pass : s.busy = false → s.pass = 0#2
  err_code : s.err = false ↔ s.errcode = 0#4
  not_both : ¬(s.done = true ∧ s.err = true)
  code_range : s.errcode.toNat ≤ 4

/-- What a run in progress keeps: its checked configuration, a step pointer inside the image, and the WP and WAB of its pass
(R271, R303). -/
structure State.RunOk (s : State) : Prop where
  config : s.busy = true → s.configOk = true
  pointer : s.pointerOk = true
  weights : s.busy = true → s.wp = weightsOf s.phase
  coeffs : s.busy = true → s.wab = coeffsOf s.phase

/-- The memories keep their canonical form and stay inside their spaces (R45, R46, R74). -/
structure State.MemoryOk (s : State) : Prop where
  src_wf : Memory.wf s.src = true
  dst_wf : Memory.wf s.dst = true
  src_below : Memory.below s.src s.capacity = true
  dst_below : Memory.below s.dst (4 * s.capacity) = true

/-- The invariant of the machine. -/
structure State.Inv (s : State) : Prop where
  capacity_pos : 1 ≤ s.capacity
  capacity_le : s.capacity ≤ 67108864
  registers : s.RegistersOk
  run : s.RunOk
  memory : s.MemoryOk

/-- The next turn is one the hardware has: not a descriptor of the model's own stream (R111, R115). -/
def State.hardwareTurn (s : State) : Bool :=
  match s.inputs with
  | .desc _ :: _ => false
  | _ => true

/-- A safe step: it answers a next state, so no fault and no refusal. -/
def SafeStep (s : State) : Prop := ∃ t, step s = .next t

/-- The state of a run that has just begun and that no turn of HOST follows: PHASE = P1, SP = (0, 0, TR), a configuration that
fits, and only turns of CORE to come (R270, R300). -/
structure State.AtRunStart (s : State) : Prop where
  phase : s.phase = .p1
  pointer : s.sp = scanStart
  config : s.configOk = true
  turns : s.inputs = []

/-- The step operations that CORE issues in its next `n` turns. -/
def State.issuedIn : Nat → State → List Instr
  | 0, _ => []
  | n + 1, s =>
    match s.issue, step s with
    | some i, .next t => i :: State.issuedIn n t
    | some i, _ => [i]
    | none, _ => []

/-- The block origins of a forward scan: rows outside, columns inside, step 2 (R252, R255). -/
def forwardBlocks (w h : Nat) : List (BitVec 20 × BitVec 20) :=
  (List.range h).flatMap fun r => (List.range w).map fun c => (BitVec.ofNat 20 (2 * c), BitVec.ofNat 20 (2 * r))

/-- The pixels of the backward scan: from (OW - 1, OH - 1) down to (0, 0), rows outside, columns inside (R257). -/
def backwardPixels (w h : Nat) : List (BitVec 20 × BitVec 20) :=
  (List.range (2 * h)).reverse.flatMap fun y =>
    (List.range (2 * w)).reverse.map fun x => (BitVec.ofNat 20 x, BitVec.ofNat 20 y)

/-- The step operations of a run of a W by H image, in order (R250, R252, R255, R257). -/
def runOrder (w h : Nat) : List Instr :=
  ((forwardBlocks w h).map fun b => .p1Blk b.1 b.2) ++
  ((forwardBlocks w h).flatMap fun b => [.p2Tr b.1 b.2, .p2Bl b.1 b.2]) ++
  ((backwardPixels w h).map fun b => .p3Px b.1 b.2)

/-- Two states alike but for the alpha channels of the words their memories hold (R208(c)). -/
structure State.AlikeButAlpha (s t : State) : Prop where
  rest : t = { s with src := t.src, dst := t.dst }
  src : ∀ k, (s.srcRead k).extractLsb' 0 24 = (t.srcRead k).extractLsb' 0 24
  dst : ∀ k, (s.dstRead k).extractLsb' 0 24 = (t.dstRead k).extractLsb' 0 24

/-- Two runs of the same size over the same source words, whatever DST holds (R276). -/
structure State.SameSource (s t : State) : Prop where
  width : s.width = t.width
  height : s.height = t.height
  src : ∀ k, k < s.width.toNat * s.height.toNat → s.srcRead k = t.srcRead k

/-- The step operations of the opcode table (R110). -/
def isStepOperation (i : Instr) : Prop := ∃ x y, i = .p1Blk x y ∨ i = .p2Tr x y ∨ i = .p2Bl x y ∨ i = .p3Px x y

end Sys2Proof.Machine
end

