-- ==== Sys2Proof/Certificates/Slice0/Obligations.lean ====
section
/-! DEFINITION. The statements for the provers, each from the numbered rules of spec/. Frames are written as the whole next state. -/

open Sys2Proof Sys2Proof.Machine

/-- Decoding an encoded operation gives it back, for every operation of the opcode table (30_encoding.md R104; 30_encoding.md R109; 30_encoding.md R112). -/
def Obligations.DecodeInvertsEncode : Prop :=
  ∀ i : Instr, decode (encode i) = i

/-- Encoding a decoded word gives the word back; a HOSTTX read comes back with DATA 0 (30_encoding.md R104; 30_encoding.md R105; 30_encoding.md R109; 30_encoding.md R112). -/
def Obligations.EncodeInvertsDecode : Prop :=
  (∀ w : BitVec 48, encode (decode (.stepDesc w)) = .stepDesc w) ∧
  (∀ w : BitVec 64, w.getLsbD 63 = true → encode (decode (.hostTx w)) = .hostTx w) ∧
  (∀ w : BitVec 64, w.getLsbD 63 = false → encode (decode (.hostTx w)) = .hostTx (w &&& 0xFFFFFFFF00000000#64))

/-- The mnemonic of a HOSTTX follows from WR and SPACE, for all sixteen pairs (R106). -/
def Obligations.HostTxRowsByDirectionAndSpace : Prop :=
  ∀ (off : BitVec 28) (data : Word),
  decode (.hostTx (0#1 ++ 0b000#3 ++ off ++ data)) = .regRd off ∧
  decode (.hostTx (0#1 ++ 0b001#3 ++ off ++ data)) = .srcRd off ∧
  decode (.hostTx (0#1 ++ 0b010#3 ++ off ++ data)) = .dstRd off ∧
  decode (.hostTx (0#1 ++ 0b011#3 ++ off ++ data)) = .rsvdSpaceRd3 off ∧
  decode (.hostTx (0#1 ++ 0b100#3 ++ off ++ data)) = .rsvdSpaceRd4 off ∧
  decode (.hostTx (0#1 ++ 0b101#3 ++ off ++ data)) = .rsvdSpaceRd5 off ∧
  decode (.hostTx (0#1 ++ 0b110#3 ++ off ++ data)) = .rsvdSpaceRd6 off ∧
  decode (.hostTx (0#1 ++ 0b111#3 ++ off ++ data)) = .rsvdSpaceRd7 off ∧
  decode (.hostTx (1#1 ++ 0b000#3 ++ off ++ data)) = .regWr off data ∧
  decode (.hostTx (1#1 ++ 0b001#3 ++ off ++ data)) = .srcWr off data ∧
  decode (.hostTx (1#1 ++ 0b010#3 ++ off ++ data)) = .dstWr off data ∧
  decode (.hostTx (1#1 ++ 0b011#3 ++ off ++ data)) = .rsvdSpaceWr3 off data ∧
  decode (.hostTx (1#1 ++ 0b100#3 ++ off ++ data)) = .rsvdSpaceWr4 off data ∧
  decode (.hostTx (1#1 ++ 0b101#3 ++ off ++ data)) = .rsvdSpaceWr5 off data ∧
  decode (.hostTx (1#1 ++ 0b110#3 ++ off ++ data)) = .rsvdSpaceWr6 off data ∧
  decode (.hostTx (1#1 ++ 0b111#3 ++ off ++ data)) = .rsvdSpaceWr7 off data

/-- The row of a STEP descriptor follows from OP and the highest set reserved bit (30_encoding.md R109; 30_encoding.md R110; 30_encoding.md R111; 30_encoding.md R112). -/
def Obligations.StepRowsByOpcodeAndReservedBits : Prop :=
  ∀ (x y : BitVec 20) (r : BitVec 4) (l3 : BitVec 3) (l2 : BitVec 2) (l1 : BitVec 1),
  decode (.stepDesc (0x1#4 ++ 0#4 ++ y ++ x)) = .p1Blk x y ∧
  decode (.stepDesc (0x1#4 ++ (0b1#1 ++ l3) ++ y ++ x)) = .rsvdP1BlkB43 l3 x y ∧
  decode (.stepDesc (0x1#4 ++ (0b01#2 ++ l2) ++ y ++ x)) = .rsvdP1BlkB42 l2 x y ∧
  decode (.stepDesc (0x1#4 ++ (0b001#3 ++ l1) ++ y ++ x)) = .rsvdP1BlkB41 l1 x y ∧
  decode (.stepDesc (0x1#4 ++ 0b0001#4 ++ y ++ x)) = .rsvdP1BlkB40 x y ∧
  decode (.stepDesc (0x2#4 ++ 0#4 ++ y ++ x)) = .p2Tr x y ∧
  decode (.stepDesc (0x2#4 ++ (0b1#1 ++ l3) ++ y ++ x)) = .rsvdP2TrB43 l3 x y ∧
  decode (.stepDesc (0x2#4 ++ (0b01#2 ++ l2) ++ y ++ x)) = .rsvdP2TrB42 l2 x y ∧
  decode (.stepDesc (0x2#4 ++ (0b001#3 ++ l1) ++ y ++ x)) = .rsvdP2TrB41 l1 x y ∧
  decode (.stepDesc (0x2#4 ++ 0b0001#4 ++ y ++ x)) = .rsvdP2TrB40 x y ∧
  decode (.stepDesc (0x3#4 ++ 0#4 ++ y ++ x)) = .p2Bl x y ∧
  decode (.stepDesc (0x3#4 ++ (0b1#1 ++ l3) ++ y ++ x)) = .rsvdP2BlB43 l3 x y ∧
  decode (.stepDesc (0x3#4 ++ (0b01#2 ++ l2) ++ y ++ x)) = .rsvdP2BlB42 l2 x y ∧
  decode (.stepDesc (0x3#4 ++ (0b001#3 ++ l1) ++ y ++ x)) = .rsvdP2BlB41 l1 x y ∧
  decode (.stepDesc (0x3#4 ++ 0b0001#4 ++ y ++ x)) = .rsvdP2BlB40 x y ∧
  decode (.stepDesc (0x4#4 ++ 0#4 ++ y ++ x)) = .p3Px x y ∧
  decode (.stepDesc (0x4#4 ++ (0b1#1 ++ l3) ++ y ++ x)) = .rsvdP3PxB43 l3 x y ∧
  decode (.stepDesc (0x4#4 ++ (0b01#2 ++ l2) ++ y ++ x)) = .rsvdP3PxB42 l2 x y ∧
  decode (.stepDesc (0x4#4 ++ (0b001#3 ++ l1) ++ y ++ x)) = .rsvdP3PxB41 l1 x y ∧
  decode (.stepDesc (0x4#4 ++ 0b0001#4 ++ y ++ x)) = .rsvdP3PxB40 x y ∧
  decode (.stepDesc (0x0#4 ++ r ++ y ++ x)) = .rsvdOp0 r x y ∧
  decode (.stepDesc (0x5#4 ++ r ++ y ++ x)) = .rsvdOp5 r x y ∧
  decode (.stepDesc (0x6#4 ++ r ++ y ++ x)) = .rsvdOp6 r x y ∧
  decode (.stepDesc (0x7#4 ++ r ++ y ++ x)) = .rsvdOp7 r x y ∧
  decode (.stepDesc (0x8#4 ++ r ++ y ++ x)) = .rsvdOp8 r x y ∧
  decode (.stepDesc (0x9#4 ++ r ++ y ++ x)) = .rsvdOp9 r x y ∧
  decode (.stepDesc (0xA#4 ++ r ++ y ++ x)) = .rsvdOpA r x y ∧
  decode (.stepDesc (0xB#4 ++ r ++ y ++ x)) = .rsvdOpB r x y ∧
  decode (.stepDesc (0xC#4 ++ r ++ y ++ x)) = .rsvdOpC r x y ∧
  decode (.stepDesc (0xD#4 ++ r ++ y ++ x)) = .rsvdOpD r x y ∧
  decode (.stepDesc (0xE#4 ++ r ++ y ++ x)) = .rsvdOpE r x y ∧
  decode (.stepDesc (0xF#4 ++ r ++ y ++ x)) = .rsvdOpF r x y

/-- The eight encoding examples of R117 encode and decode as listed (R117). -/
def Obligations.EncodingExamplesOfTheSpec : Prop :=
  (encode (.regWr 2#28 2#32) = .hostTx 0x8000000200000002#64 ∧ decode (.hostTx 0x8000000200000002#64) = .regWr 2#28 2#32) ∧
  (encode (.regWr 0#28 1#32) = .hostTx 0x8000000000000001#64 ∧ decode (.hostTx 0x8000000000000001#64) = .regWr 0#28 1#32) ∧
  (encode (.regRd 1#28) = .hostTx 0x0000000100000000#64 ∧ decode (.hostTx 0x0000000100000000#64) = .regRd 1#28) ∧
  (encode (.srcWr 1#28 0xFFFFFFFF#32) = .hostTx 0x90000001FFFFFFFF#64 ∧
    decode (.hostTx 0x90000001FFFFFFFF#64) = .srcWr 1#28 0xFFFFFFFF#32) ∧
  (encode (.dstRd 3#28) = .hostTx 0x2000000300000000#64 ∧ decode (.hostTx 0x2000000300000000#64) = .dstRd 3#28) ∧
  (encode (.p1Blk 2#20 0#20) = .stepDesc 0x100000000002#48 ∧ decode (.stepDesc 0x100000000002#48) = .p1Blk 2#20 0#20) ∧
  (encode (.p2Bl 0#20 2#20) = .stepDesc 0x300000200000#48 ∧ decode (.stepDesc 0x300000200000#48) = .p2Bl 0#20 2#20) ∧
  (encode (.p3Px 3#20 1#20) = .stepDesc 0x400000100003#48 ∧ decode (.stepDesc 0x400000100003#48) = .p3Px 3#20 1#20)

/-- A step runs the operation decoded from the next turn, or the one the orchestrator issues and then its advance (45_host.md R290; 44_passes.md R270; 44_passes.md R273; log 9; log 10). -/
def Obligations.StepRunsDecodedOperation : Prop :=
  (∀ (s : State) (w : BitVec 64) (rest : List Input), s.inputs = .host w :: rest →
    step s = exec (decode (.hostTx w)) { s with inputs := rest }) ∧
  (∀ (s : State) (w : BitVec 48) (rest : List Input), s.inputs = .desc w :: rest →
    step s = exec (decode (.stepDesc w)) { s with inputs := rest }) ∧
  (∀ (s : State) (i : Instr) (rest : List Input), s.inputs = .core :: rest → s.issue = some i →
    step s = advanceAfter (exec i { s with inputs := rest })) ∧
  (∀ (s : State) (i : Instr), s.inputs = [] → s.issue = some i → step s = advanceAfter (exec i s)) ∧
  (∀ (s : State), s.inputs = [] → s.issue = none → step s = .next s)

/-- The step after withFetchWord runs exactly the placed host transaction, or a placed descriptor that is not well formed (30_encoding.md R104; log 15). -/
def Obligations.WithFetchWordRunsTheWord : Prop :=
  (∀ (s : State) (w : BitVec 64), step (s.withFetchWord 64 w.toNat) = exec (decode (.hostTx w)) s) ∧
  (∀ (s : State) (w : BitVec 48), (decode (.stepDesc w)).wf = false →
    step (s.withFetchWord 48 w.toNat) = exec (decode (.stepDesc w)) s)

/-- A placed well-formed STEP descriptor is what the orchestrator issues next (44_passes.md R270; log 15). -/
def Obligations.WithFetchWordIssuesTheStepOperation : Prop :=
  ∀ (s : State) (w : BitVec 48), (decode (.stepDesc w)).wf = true →
  ∃ t : State, t.issue = some (decode (.stepDesc w)) ∧ t.inputs = s.inputs ∧ t.irqEn = s.irqEn ∧ t.src = s.src ∧
    t.dst = s.dst ∧ t.capacity = s.capacity ∧ t.rdata = s.rdata ∧ t.draws = s.draws ∧ t.resets = s.resets ∧ t.pointerOk = true ∧
    step (s.withFetchWord 48 w.toNat) = advanceAfter (exec (decode (.stepDesc w)) t)

/-- REG_RD returns the register word of R291 and changes nothing else (R291). -/
def Obligations.RegRdReturnsTheRegisterWord : Prop :=
  (∀ (s : State) (off : BitVec 28),
    (off.toNat = 0 → exec (.regRd off) s = .next { s with rdata := some (0#30 ++ BitVec.ofBool s.irqEn ++ 0#1) }) ∧
    (off.toNat = 1 → exec (.regRd off) s = .next { s with rdata := some (0#20 ++ s.errcode ++ 0#2 ++ s.pass ++ 0#1 ++
      BitVec.ofBool s.err ++ BitVec.ofBool s.done ++ BitVec.ofBool s.busy) }) ∧
    (off.toNat = 2 → exec (.regRd off) s = .next { s with rdata := some (0#16 ++ s.width) }) ∧
    (off.toNat = 3 → exec (.regRd off) s = .next { s with rdata := some (0#16 ++ s.height) }) ∧
    (off.toNat = 4 → exec (.regRd off) s = .next { s with rdata := some s.srcLen }) ∧
    (off.toNat = 5 → exec (.regRd off) s = .next { s with rdata := some (BitVec.ofNat 32 s.capacity) }) ∧
    (6 ≤ off.toNat → exec (.regRd off) s = .next { s with rdata := some 0#32 })) ∧
  (∀ s : State, s.RegistersOk →
    (s.phase = .p1 → exec (.regRd 1#28) s = .next { s with rdata := some 0x11#32 }) ∧
    (s.phase = .p2 → exec (.regRd 1#28) s = .next { s with rdata := some 0x21#32 }) ∧
    (s.phase = .p3 → exec (.regRd 1#28) s = .next { s with rdata := some 0x31#32 })) ∧
  exec (.regRd 1#28) State.reset = .next { State.reset with rdata := some 0#32 } ∧
  exec (.regRd 5#28) State.reset = .next { State.reset with rdata := some (BitVec.ofNat 32 Config.maxSrcPixels) }

/-- REG_WR writes the register of R292 and nothing else (R292). -/
def Obligations.RegWrFollowsItsRule : Prop :=
  ∀ (s : State) (off : BitVec 28) (data : Word),
  (off.toNat = 0 → data.getLsbD 0 = false →
    exec (.regWr off data) s = .next { s with irqEn := data.getLsbD 1, rdata := none }) ∧
  (off.toNat = 0 → data.getLsbD 0 = true →
    exec (.regWr off data) s = .next { State.start { s with irqEn := data.getLsbD 1 } with rdata := none }) ∧
  (off.toNat = 1 → exec (.regWr off data) s = .next { s with
    done := s.done && !data.getLsbD 1
    err := s.err && !data.getLsbD 2
    errcode := if data.getLsbD 2 then 0#4 else s.errcode
    rdata := none }) ∧
  (off.toNat = 2 → s.busy = false →
    exec (.regWr off data) s = .next { s with width := data.extractLsb' 0 16, rdata := none }) ∧
  (off.toNat = 3 → s.busy = false →
    exec (.regWr off data) s = .next { s with height := data.extractLsb' 0 16, rdata := none }) ∧
  (off.toNat = 4 → s.busy = false → exec (.regWr off data) s = .next { s with srcLen := data, rdata := none }) ∧
  (2 ≤ off.toNat → off.toNat ≤ 4 → s.busy = true → exec (.regWr off data) s = .next { s with rdata := none }) ∧
  (5 ≤ off.toNat → exec (.regWr off data) s = .next { s with rdata := none })

/-- A CTRL write with START = 1 is ignored while BUSY, refused with the first failing precondition, or begins pass 1 (R300; R321; R322). -/
def Obligations.StartIgnoredRefusedOrAccepted : Prop :=
  ∀ (s : State) (data : Word), data.getLsbD 0 = true →
  (s.busy = true → exec (.regWr 0#28 data) s = .next { s with irqEn := data.getLsbD 1, rdata := none }) ∧
  (s.busy = false → s.width.toNat = 0 → exec (.regWr 0#28 data) s = .next { s with
    irqEn := data.getLsbD 1, done := false, err := true, errcode := 1#4, rdata := none }) ∧
  (s.busy = false → s.width.toNat ≠ 0 → s.height.toNat = 0 → exec (.regWr 0#28 data) s = .next { s with
    irqEn := data.getLsbD 1, done := false, err := true, errcode := 2#4, rdata := none }) ∧
  (s.busy = false → s.width.toNat ≠ 0 → s.height.toNat ≠ 0 → s.srcLen.toNat ≠ s.width.toNat * s.height.toNat →
    exec (.regWr 0#28 data) s = .next { s with
      irqEn := data.getLsbD 1, done := false, err := true, errcode := 3#4, rdata := none }) ∧
  (s.busy = false → s.width.toNat ≠ 0 → s.height.toNat ≠ 0 → s.srcLen.toNat = s.width.toNat * s.height.toNat →
    s.capacity < s.width.toNat * s.height.toNat → exec (.regWr 0#28 data) s = .next { s with
      irqEn := data.getLsbD 1, done := false, err := true, errcode := 4#4, rdata := none }) ∧
  (s.busy = false → s.width.toNat ≠ 0 → s.height.toNat ≠ 0 → s.srcLen.toNat = s.width.toNat * s.height.toNat →
    s.width.toNat * s.height.toNat ≤ s.capacity → exec (.regWr 0#28 data) s = .next { s with
      irqEn := data.getLsbD 1, done := false, err := false, errcode := 0#4, rdata := none
      phase := .p1, sp := ⟨0#20, 0#20, .tr⟩, wp := wpFull, wab := wab12 })

/-- A STATUS write clears DONE and ERR by write 1, lowers irq when nothing is pending, and does nothing during a run (R301). -/
def Obligations.StatusWriteOneToClear : Prop :=
  ∀ (s : State) (data : Word),
  (∃ t, exec (.regWr 1#28 data) s = .next t ∧ t = { s with done := t.done, err := t.err, errcode := t.errcode, rdata := none } ∧
    t.done = (s.done && !data.getLsbD 1) ∧ t.err = (s.err && !data.getLsbD 2) ∧
    t.errcode = (if data.getLsbD 2 then 0#4 else s.errcode) ∧
    (data.getLsbD 1 = true → s.err = false → t.irq = false) ∧ (data.getLsbD 2 = true → s.done = false → t.irq = false)) ∧
  (s.RegistersOk → s.busy = true → exec (.regWr 1#28 data) s = .next { s with rdata := none }) ∧
  (s.busy = false → ∃ t, exec (.regWr 1#28 6#32) s = .next t ∧ t.statusWord = 0#32)

/-- A CTRL write without START sets the interrupt level in the same action, at any time (R302). -/
def Obligations.IrqEnTakesEffectAtOnce : Prop :=
  ∀ (s : State) (data : Word), data.getLsbD 0 = false →
  ∃ t, exec (.regWr 0#28 data) s = .next t ∧ t = { s with irqEn := data.getLsbD 1, rdata := none } ∧
    t.irq = (data.getLsbD 1 && (s.done || s.err))

/-- Reserved bits read 0, writes to reserved bits and reserved offsets are ignored, reserved offsets read 0 (R32). -/
def Obligations.ReservedRegisterBitsAndOffsets : Prop :=
  ∀ s : State,
  (s.ctrlWord.extractLsb' 2 30 = 0#30 ∧ s.statusWord.getLsbD 3 = false ∧ s.statusWord.extractLsb' 6 2 = 0#2 ∧
    s.statusWord.extractLsb' 12 20 = 0#20) ∧
  (∀ off : BitVec 28, exec (.regRd off) s = .next { s with rdata := some (s.regRead off) } ∧
    (off.toNat = 0 → s.regRead off = s.ctrlWord) ∧ (off.toNat = 1 → s.regRead off = s.statusWord) ∧
    (off.toNat = 2 ∨ off.toNat = 3 → (s.regRead off).extractLsb' 16 16 = 0#16) ∧
    (6 ≤ off.toNat → s.regRead off = 0#32)) ∧
  (∀ data : Word, exec (.regWr 0#28 data) s = exec (.regWr 0#28 (data &&& 0x3#32)) s ∧
    exec (.regWr 1#28 data) s = exec (.regWr 1#28 (data &&& 0x6#32)) s ∧
    exec (.regWr 2#28 data) s = exec (.regWr 2#28 (data &&& 0xFFFF#32)) s ∧
    exec (.regWr 3#28 data) s = exec (.regWr 3#28 (data &&& 0xFFFF#32)) s) ∧
  (∀ (off : BitVec 28) (data : Word), 6 ≤ off.toNat → exec (.regWr off data) s = .next { s with rdata := none })

/-- CAPACITY reads MAX_SRC_PIXELS, ignores writes, and no step changes it (R38). -/
def Obligations.CapacityIsReadOnlyAndConstant : Prop :=
  (∀ (s : State) (data : Word), exec (.regWr 5#28 data) s = .next { s with rdata := none }) ∧
  (∀ s : State, exec (.regRd 5#28) s = .next { s with rdata := some (BitVec.ofNat 32 s.capacity) }) ∧
  (∀ s t : State, step s = .next t → t.capacity = s.capacity) ∧ State.reset.capacity = Config.maxSrcPixels

/-- SRC_RD returns the SRC word, or 0 beyond SRC, at any time (R293). -/
def Obligations.SrcRdReturnsTheWord : Prop :=
  ∀ (s : State) (off : BitVec 28),
  (off.toNat < s.capacity → exec (.srcRd off) s = .next { s with rdata := some (s.srcRead off.toNat) }) ∧
  (s.capacity ≤ off.toNat → exec (.srcRd off) s = .next { s with rdata := some 0#32 })

/-- SRC_WR writes SRC[OFF] while idle and inside SRC, and otherwise changes nothing (R294). -/
def Obligations.SrcWrWritesOneWordWhileIdle : Prop :=
  ∀ (s : State) (off : BitVec 28) (data : Word),
  (s.busy = false → off.toNat < s.capacity →
    ∃ t, exec (.srcWr off data) s = .next t ∧ t = { s with src := t.src, rdata := none } ∧ t.srcRead off.toNat = data ∧
      (∀ k, k ≠ off.toNat → t.srcRead k = s.srcRead k) ∧ (∀ k, t.dstRead k = s.dstRead k)) ∧
  (s.busy = true → exec (.srcWr off data) s = .next { s with rdata := none }) ∧
  (s.capacity ≤ off.toNat → exec (.srcWr off data) s = .next { s with rdata := none })

/-- DST_RD returns 0 beyond DST, a free value while BUSY (its form is the choice of the model, log 7), and the DST word while idle (45_host.md R295; 20_memory.md R83; log 7). -/
def Obligations.DstRdReturnsTheWordWhileIdle : Prop :=
  ∀ (s : State) (off : BitVec 28),
  (4 * s.capacity ≤ off.toNat → exec (.dstRd off) s = .next { s with rdata := some 0#32 }) ∧
  (off.toNat < 4 * s.capacity → s.busy = true →
    exec (.dstRd off) s = .next { s with rdata := some (Config.busyDstRead s.draws), draws := s.draws + 1 }) ∧
  (off.toNat < 4 * s.capacity → s.busy = false →
    exec (.dstRd off) s = .next { s with rdata := some (s.dstRead off.toNat) })

/-- DST_WR changes nothing at any offset, busy or not (R296). -/
def Obligations.DstWrHasNoEffect : Prop :=
  ∀ (s : State) (off : BitVec 28) (data : Word), exec (.dstWr off data) s = .next { s with rdata := none }

/-- A transaction on a reserved SPACE completes: a read returns 0, a write has no effect (R297). -/
def Obligations.ReservedSpacesReadZeroIgnoreWrites : Prop :=
  ∀ (s : State) (off : BitVec 28) (data : Word),
  exec (.rsvdSpaceRd3 off) s = .next { s with rdata := some 0#32 } ∧
  exec (.rsvdSpaceRd4 off) s = .next { s with rdata := some 0#32 } ∧
  exec (.rsvdSpaceRd5 off) s = .next { s with rdata := some 0#32 } ∧
  exec (.rsvdSpaceRd6 off) s = .next { s with rdata := some 0#32 } ∧
  exec (.rsvdSpaceRd7 off) s = .next { s with rdata := some 0#32 } ∧
  exec (.rsvdSpaceWr3 off data) s = .next { s with rdata := none } ∧
  exec (.rsvdSpaceWr4 off data) s = .next { s with rdata := none } ∧
  exec (.rsvdSpaceWr5 off data) s = .next { s with rdata := none } ∧
  exec (.rsvdSpaceWr6 off data) s = .next { s with rdata := none } ∧
  exec (.rsvdSpaceWr7 off data) s = .next { s with rdata := none }

/-- Every read returns one word and every write completes without one (R107). -/
def Obligations.EveryHostTransactionCompletes : Prop :=
  ∀ (s : State) (w : BitVec 64), ∃ t, exec (decode (.hostTx w)) s = .next t ∧
  (w.getLsbD 63 = false → ∃ v, t.rdata = some v) ∧ (w.getLsbD 63 = true → t.rdata = none)

/-- No host read changes a register, a memory word or the run (20_memory.md R78; log 7; log 8). -/
def Obligations.HostReadsHaveNoSideEffect : Prop :=
  ∀ (s t : State) (w : BitVec 64), w.getLsbD 63 = false → exec (decode (.hostTx w)) s = .next t →
  t = { s with rdata := t.rdata, draws := t.draws }

/-- Host accesses beyond SRC or DST read 0 and write nothing, and CORE forms no such offset in an accepted run (R74). -/
def Obligations.OutOfRangeOffsetsAreHarmless : Prop :=
  (∀ (s : State) (off : BitVec 28), s.capacity ≤ off.toNat → exec (.srcRd off) s = .next { s with rdata := some 0#32 }) ∧
  (∀ (s : State) (off : BitVec 28), 4 * s.capacity ≤ off.toNat → exec (.dstRd off) s = .next { s with rdata := some 0#32 }) ∧
  (∀ (s : State) (off : BitVec 28) (data : Word), s.capacity ≤ off.toNat →
    exec (.srcWr off data) s = .next { s with rdata := none }) ∧
  (∀ (s : State) (off : BitVec 28) (data : Word), 4 * s.capacity ≤ off.toNat →
    exec (.dstWr off data) s = .next { s with rdata := none }) ∧
  (∀ (s : State) (i : Instr), s.Inv → s.issue = some i →
    (∀ pat, i = .p1Blk s.sp.x s.sp.y ∧ pat = Pattern.p1 ∨ i = .p2Tr s.sp.x s.sp.y ∧ pat = .p2a ∨
      i = .p2Bl s.sp.x s.sp.y ∧ pat = .p2b ∨ i = .p3Px s.sp.x s.sp.y ∧ pat = .p3 →
      ∀ a b, gatherIndex pat (s.bufferWidth (bufferOf pat)) (s.bufferHeight (bufferOf pat)) s.sp.x.toNat s.sp.y.toNat a b <
        s.spaceSize (bufferOf pat)) ∧
    ∃ t, exec i s = .next t)

/-- P1_BLK copies the source pixel to TL, TR and BL, interpolates BR, and changes nothing else (R251). -/
def Obligations.P1BlkWritesItsBlock : Prop :=
  ∀ (s : State) (x y : BitVec 20), s.blockOk x y = true → s.width.toNat * s.height.toNat ≤ s.capacity →
  ∃ t, exec (.p1Blk x y) s = .next t ∧ t = { s with dst := t.dst } ∧
    t.dstRead (y.toNat * (2 * s.width.toNat) + x.toNat) = s.srcRead (y.toNat / 2 * s.width.toNat + x.toNat / 2) ∧
    t.dstRead (y.toNat * (2 * s.width.toNat) + x.toNat + 1) = s.srcRead (y.toNat / 2 * s.width.toNat + x.toNat / 2) ∧
    t.dstRead ((y.toNat + 1) * (2 * s.width.toNat) + x.toNat) = s.srcRead (y.toNat / 2 * s.width.toNat + x.toNat / 2) ∧
    t.dstRead ((y.toNat + 1) * (2 * s.width.toNat) + x.toNat + 1) =
      interpolate (s.gather .p1 x.toNat y.toNat).ch (edgeSel wpFull (s.gather .p1 x.toNat y.toNat).luma) wab12 ∧
    (∀ k, k ≠ y.toNat * (2 * s.width.toNat) + x.toNat → k ≠ y.toNat * (2 * s.width.toNat) + x.toNat + 1 →
      k ≠ (y.toNat + 1) * (2 * s.width.toNat) + x.toNat → k ≠ (y.toNat + 1) * (2 * s.width.toNat) + x.toNat + 1 →
      t.dstRead k = s.dstRead k) ∧
    (∀ k, t.srcRead k = s.srcRead k) ∧
    (∀ c, (s.gather .p1 x.toNat y.toNat).ch c 1 1 = channelOf c (s.srcRead (y.toNat / 2 * s.width.toNat + x.toNat / 2))) ∧
    (s.width.toNat = 1 → s.height.toNat = 1 →
      t.dstRead ((y.toNat + 1) * (2 * s.width.toNat) + x.toNat + 1) = s.srcRead 0)

/-- P2_TR interpolates the top-right cell from the DST it starts in, and changes nothing else (44_passes.md R253; 20_memory.md R80). -/
def Obligations.P2TrWritesItsCell : Prop :=
  ∀ (s : State) (x y : BitVec 20), s.blockOk x y = true → s.width.toNat * s.height.toNat ≤ s.capacity →
  ∃ t, exec (.p2Tr x y) s = .next t ∧ t = { s with dst := t.dst } ∧
    t.dstRead (y.toNat * (2 * s.width.toNat) + x.toNat + 1) =
      interpolate (s.gather .p2a x.toNat y.toNat).ch (edgeSel wpP2 (s.gather .p2a x.toNat y.toNat).luma) wab34 ∧
    (∀ k, k ≠ y.toNat * (2 * s.width.toNat) + x.toNat + 1 → t.dstRead k = s.dstRead k) ∧ (∀ k, t.srcRead k = s.srcRead k)

/-- P2_BL interpolates the bottom-left cell from the DST it starts in, and changes nothing else (44_passes.md R254; 20_memory.md R80). -/
def Obligations.P2BlWritesItsCell : Prop :=
  ∀ (s : State) (x y : BitVec 20), s.blockOk x y = true → s.width.toNat * s.height.toNat ≤ s.capacity →
  ∃ t, exec (.p2Bl x y) s = .next t ∧ t = { s with dst := t.dst } ∧
    t.dstRead ((y.toNat + 1) * (2 * s.width.toNat) + x.toNat) =
      interpolate (s.gather .p2b x.toNat y.toNat).ch (edgeSel wpP2 (s.gather .p2b x.toNat y.toNat).luma) wab34 ∧
    (∀ k, k ≠ (y.toNat + 1) * (2 * s.width.toNat) + x.toNat → t.dstRead k = s.dstRead k) ∧ (∀ k, t.srcRead k = s.srcRead k)

/-- P3_PX rewrites one pixel in place; its old value is the inner sample m[2][2]; equal inner samples leave it (R256). -/
def Obligations.P3PxRewritesItsPixel : Prop :=
  ∀ (s : State) (x y : BitVec 20), s.pixelOk x y = true → s.width.toNat * s.height.toNat ≤ s.capacity →
  ∃ t, exec (.p3Px x y) s = .next t ∧ t = { s with dst := t.dst } ∧
    t.dstRead (y.toNat * (2 * s.width.toNat) + x.toNat) =
      interpolate (s.gather .p3 x.toNat y.toNat).ch (edgeSel wpFull (s.gather .p3 x.toNat y.toNat).luma) wab12 ∧
    (∀ k, k ≠ y.toNat * (2 * s.width.toNat) + x.toNat → t.dstRead k = s.dstRead k) ∧ (∀ k, t.srcRead k = s.srcRead k) ∧
    (∀ c, (s.gather .p3 x.toNat y.toNat).ch c 2 2 = channelOf c (s.dstRead (y.toNat * (2 * s.width.toNat) + x.toNat))) ∧
    ((∀ c, (s.gather .p3 x.toNat y.toNat).ch c 1 1 = (s.gather .p3 x.toNat y.toNat).ch c 2 2 ∧
        (s.gather .p3 x.toNat y.toNat).ch c 2 1 = (s.gather .p3 x.toNat y.toNat).ch c 2 2 ∧
        (s.gather .p3 x.toNat y.toNat).ch c 1 2 = (s.gather .p3 x.toNat y.toNat).ch c 2 2) →
      t.dstRead (y.toNat * (2 * s.width.toNat) + x.toNat) = s.dstRead (y.toNat * (2 * s.width.toNat) + x.toNat)) ∧
    (x = 0#20 → y = 0#20 → t.dstRead 0 = s.dstRead 0)

/-- Every reserved STEP row and every descriptor with ill-formed coordinates is refused, and the orchestrator issues none (R111). -/
def Obligations.ReservedAndIllFormedDescriptorsRefused : Prop :=
  (∀ (s : State) (x y : BitVec 20) (r : BitVec 4) (l3 : BitVec 3) (l2 : BitVec 2) (l1 : BitVec 1),
    exec (.rsvdOp0 r x y) s = .refused .reservedStep ∧
    exec (.rsvdOp5 r x y) s = .refused .reservedStep ∧
    exec (.rsvdOp6 r x y) s = .refused .reservedStep ∧
    exec (.rsvdOp7 r x y) s = .refused .reservedStep ∧
    exec (.rsvdOp8 r x y) s = .refused .reservedStep ∧
    exec (.rsvdOp9 r x y) s = .refused .reservedStep ∧
    exec (.rsvdOpA r x y) s = .refused .reservedStep ∧
    exec (.rsvdOpB r x y) s = .refused .reservedStep ∧
    exec (.rsvdOpC r x y) s = .refused .reservedStep ∧
    exec (.rsvdOpD r x y) s = .refused .reservedStep ∧
    exec (.rsvdOpE r x y) s = .refused .reservedStep ∧
    exec (.rsvdOpF r x y) s = .refused .reservedStep ∧
    exec (.rsvdP1BlkB43 l3 x y) s = .refused .reservedStep ∧
    exec (.rsvdP1BlkB42 l2 x y) s = .refused .reservedStep ∧
    exec (.rsvdP1BlkB41 l1 x y) s = .refused .reservedStep ∧
    exec (.rsvdP1BlkB40 x y) s = .refused .reservedStep ∧
    exec (.rsvdP2TrB43 l3 x y) s = .refused .reservedStep ∧
    exec (.rsvdP2TrB42 l2 x y) s = .refused .reservedStep ∧
    exec (.rsvdP2TrB41 l1 x y) s = .refused .reservedStep ∧
    exec (.rsvdP2TrB40 x y) s = .refused .reservedStep ∧
    exec (.rsvdP2BlB43 l3 x y) s = .refused .reservedStep ∧
    exec (.rsvdP2BlB42 l2 x y) s = .refused .reservedStep ∧
    exec (.rsvdP2BlB41 l1 x y) s = .refused .reservedStep ∧
    exec (.rsvdP2BlB40 x y) s = .refused .reservedStep ∧
    exec (.rsvdP3PxB43 l3 x y) s = .refused .reservedStep ∧
    exec (.rsvdP3PxB42 l2 x y) s = .refused .reservedStep ∧
    exec (.rsvdP3PxB41 l1 x y) s = .refused .reservedStep ∧
    exec (.rsvdP3PxB40 x y) s = .refused .reservedStep) ∧
  (∀ (s : State) (x y : BitVec 20),
    (x.toNat % 2 = 1 ∨ y.toNat % 2 = 1 ∨ 2 * s.width.toNat ≤ x.toNat ∨ 2 * s.height.toNat ≤ y.toNat →
      exec (.p1Blk x y) s = .refused .illFormedStep ∧ exec (.p2Tr x y) s = .refused .illFormedStep ∧
      exec (.p2Bl x y) s = .refused .illFormedStep) ∧
    (2 * s.width.toNat ≤ x.toNat ∨ 2 * s.height.toNat ≤ y.toNat → exec (.p3Px x y) s = .refused .illFormedStep)) ∧
  (∀ (s : State) (i : Instr), s.Inv → s.issue = some i →
    (∃ x y, (i = .p1Blk x y ∨ i = .p2Tr x y ∨ i = .p2Bl x y) ∧ s.blockOk x y = true) ∨
    (∃ x y, i = .p3Px x y ∧ s.pixelOk x y = true))

/-- A step operation with legal coordinates and an access beyond SRC or DST faults (the choice of the model, log 11) (20_memory.md R74; log 11). -/
def Obligations.StepBeyondMemoryFaults : Prop :=
  ∀ (s : State) (x y : BitVec 20),
  (s.blockOk x y = true → s.gatherInRange .p1 x.toNat y.toNat = false ∨
      4 * s.capacity ≤ y.toNat * (2 * s.width.toNat) + x.toNat ∨ 4 * s.capacity ≤ y.toNat * (2 * s.width.toNat) + x.toNat + 1 ∨
      4 * s.capacity ≤ (y.toNat + 1) * (2 * s.width.toNat) + x.toNat ∨
      4 * s.capacity ≤ (y.toNat + 1) * (2 * s.width.toNat) + x.toNat + 1 →
    exec (.p1Blk x y) s = .fault .coreOffsetOutOfRange) ∧
  (s.blockOk x y = true → s.gatherInRange .p2a x.toNat y.toNat = false ∨
      4 * s.capacity ≤ y.toNat * (2 * s.width.toNat) + x.toNat + 1 →
    exec (.p2Tr x y) s = .fault .coreOffsetOutOfRange) ∧
  (s.blockOk x y = true → s.gatherInRange .p2b x.toNat y.toNat = false ∨
      4 * s.capacity ≤ (y.toNat + 1) * (2 * s.width.toNat) + x.toNat →
    exec (.p2Bl x y) s = .fault .coreOffsetOutOfRange) ∧
  (s.pixelOk x y = true → s.gatherInRange .p3 x.toNat y.toNat = false ∨
      4 * s.capacity ≤ y.toNat * (2 * s.width.toNat) + x.toNat →
    exec (.p3Px x y) s = .fault .coreOffsetOutOfRange)

/-- The coordinate clamp stays in the buffer, keeps inside coordinates and replicates the border (R142). -/
def Obligations.CoordinateClampCorners : Prop :=
  ∀ (n : Nat) (v : Int), 1 ≤ n →
  (0 ≤ cclamp v n ∧ cclamp v n ≤ (n : Int) - 1) ∧ (v < 0 → cclamp v n = 0) ∧ ((n : Int) - 1 < v → cclamp v n = (n : Int) - 1) ∧
  (0 ≤ v → v ≤ (n : Int) - 1 → cclamp v n = v) ∧ (n = 1 → cclamp v n = 0)

/-- Every gathered sample lies inside the run's buffer (R177). -/
def Obligations.GatherIndicesStayInsideTheBuffer : Prop :=
  (∀ (pat : Pattern) (bw bh x y : Nat) (i j : Fin 4), 1 ≤ bw → 1 ≤ bh →
    0 ≤ (gatherCell pat bw bh x y i j).1 ∧ (gatherCell pat bw bh x y i j).1 ≤ (bw : Int) - 1 ∧
    0 ≤ (gatherCell pat bw bh x y i j).2 ∧ (gatherCell pat bw bh x y i j).2 ≤ (bh : Int) - 1 ∧
    gatherIndex pat bw bh x y i j < bw * bh) ∧
  (∀ (s : State) (x y : Nat) (i j : Fin 4), 1 ≤ s.width.toNat → 1 ≤ s.height.toNat →
    gatherIndex .p1 (s.bufferWidth .src) (s.bufferHeight .src) x y i j < s.width.toNat * s.height.toNat ∧
    gatherIndex .p2a (s.bufferWidth .dst) (s.bufferHeight .dst) x y i j < 4 * (s.width.toNat * s.height.toNat) ∧
    gatherIndex .p2b (s.bufferWidth .dst) (s.bufferHeight .dst) x y i j < 4 * (s.width.toNat * s.height.toNat) ∧
    gatherIndex .p3 (s.bufferWidth .dst) (s.bufferHeight .dst) x y i j < 4 * (s.width.toNat * s.height.toNat))

/-- Away from the borders the pass-2 gathers read only cells with x + y even, which pass 2 never writes (44_passes.md R274; 41_gather.md R173; 41_gather.md R174). -/
def Obligations.InteriorPass2ReadsNoPass2Cell : Prop :=
  ∀ (bw bh x y : Nat) (i j : Fin 4), x % 2 = 0 → y % 2 = 0 → 4 ≤ x → x + 6 ≤ bw → 4 ≤ y → y + 6 ≤ bh →
  (gatherCell .p2a bw bh x y i j = offset .p2a x y i.val j.val ∧
    ((gatherCell .p2a bw bh x y i j).1 + (gatherCell .p2a bw bh x y i j).2) % 2 = 0) ∧
  (gatherCell .p2b bw bh x y i j = offset .p2b x y i.val j.val ∧
    ((gatherCell .p2b bw bh x y i j).1 + (gatherCell .p2b bw bh x y i j).2) % 2 = 0) ∧
  (x + 1 + y) % 2 = 1 ∧ (x + (y + 1)) % 2 = 1

/-- The inner samples and the diagonal lines of the four patterns are those of the geometry table (41_gather.md R176). -/
def Obligations.InnerSamplesOfThePatterns : Prop :=
  ∀ x y : Int,
  (offset .p1 x y 1 1 = (x / 2, y / 2) ∧ offset .p1 x y 2 1 = (x / 2 + 1, y / 2) ∧ offset .p1 x y 1 2 = (x / 2, y / 2 + 1) ∧
    offset .p1 x y 2 2 = (x / 2 + 1, y / 2 + 1) ∧ offset .p1 x y 0 3 = (x / 2 - 1, y / 2 + 2) ∧ offset .p1 x y 3 0 = (x / 2 + 2, y / 2 - 1) ∧
    offset .p1 x y 0 0 = (x / 2 - 1, y / 2 - 1) ∧ offset .p1 x y 3 3 = (x / 2 + 2, y / 2 + 2)) ∧
  (offset .p2a x y 0 3 = (x + 1, y - 3) ∧ offset .p2a x y 1 2 = (x + 1, y - 1) ∧ offset .p2a x y 2 1 = (x + 1, y + 1) ∧
    offset .p2a x y 3 0 = (x + 1, y + 3) ∧ offset .p2a x y 0 0 = (x - 2, y) ∧ offset .p2a x y 1 1 = (x, y) ∧
    offset .p2a x y 2 2 = (x + 2, y) ∧ offset .p2a x y 3 3 = (x + 4, y)) ∧
  (offset .p2b x y 0 3 = (x, y - 2) ∧ offset .p2b x y 1 2 = (x, y) ∧ offset .p2b x y 2 1 = (x, y + 2) ∧
    offset .p2b x y 3 0 = (x, y + 4) ∧ offset .p2b x y 0 0 = (x - 3, y + 1) ∧ offset .p2b x y 1 1 = (x - 1, y + 1) ∧
    offset .p2b x y 2 2 = (x + 1, y + 1) ∧ offset .p2b x y 3 3 = (x + 3, y + 1)) ∧
  (offset .p3 x y 1 1 = (x - 1, y - 1) ∧ offset .p3 x y 2 1 = (x, y - 1) ∧ offset .p3 x y 1 2 = (x - 1, y) ∧
    offset .p3 x y 2 2 = (x, y) ∧ offset .p3 x y 0 3 = (x - 2, y + 1) ∧ offset .p3 x y 3 0 = (x + 1, y - 2) ∧
    offset .p3 x y 0 0 = (x - 2, y - 2) ∧ offset .p3 x y 3 3 = (x + 1, y + 1))

/-- Every rounded operation gives the nearest binary64 value, ties to even (00_scope.md R11; 40_primitives.md R143; log 12). -/
def Obligations.RoundingIsToNearestEven : Prop :=
  (∀ a b : F64, a.add b = F64.round (a.units + b.units) 0 ∧ a.sub b = F64.round (a.units - b.units) 0 ∧
    a.mul b = F64.round (a.units * b.units) 1074) ∧
  ∀ (n : Int) (s : Nat), (F64.round n s).representable = true ∧
  ∀ r : F64, r.representable = true →
    (n - (F64.round n s).units * 2 ^ s).natAbs ≤ (n - r.units * 2 ^ s).natAbs ∧
    ((n - (F64.round n s).units * 2 ^ s).natAbs = (n - r.units * 2 ^ s).natAbs → r ≠ F64.round n s →
      (F64.round n s).units.natAbs / 2 ^ (topBit (F64.round n s).units.natAbs - 52) % 2 = 0)

/-- df is symmetric, zero on equal values, and never negative (R140). -/
def Obligations.LumaDifferenceLaws : Prop :=
  ∀ a b : F64, (df a b).units = ((a.sub b).units.natAbs : Int) ∧ df a b = df b a ∧ df a a = F64.ofInt 0 ∧ 0 ≤ (df a b).units

/-- The tabulated constants are the nearest binary64 values of the literals, and each coefficient pair sums to 0.5 (40_primitives.md R147; 43_interp.md R226; 42_edge.md R205). -/
def Obligations.ConstantsAreTheRoundedLiterals : Prop :=
  ((F64.lit 2126 4).toBits = cR ∧ (F64.lit 7152 4).toBits = cG ∧ (F64.lit 722 4).toBits = cB) ∧
  (F64.ofBits w1).units = -(F64.lit 129633 6).units ∧ ((F64.lit 129633 6).add (F64.lit 5 1)).toBits = w2 ∧
  (F64.ofBits w3).units = -(F64.lit 175068 6).units ∧ ((F64.lit 175068 6).add (F64.lit 5 1)).toBits = w4 ∧
  (F64.ofBits w1).add (F64.ofBits w2) = F64.lit 5 1 ∧ (F64.ofBits w3).add (F64.ofBits w4) = F64.lit 5 1 ∧
  (coeffsOf .p1 = ⟨w1, w2⟩ ∧ coeffsOf .p2 = ⟨w3, w4⟩ ∧ coeffsOf .p3 = ⟨w1, w2⟩) ∧
  (weightsOf .p1 = wpFull ∧ weightsOf .p2 = wpP2 ∧ weightsOf .p3 = wpFull) ∧
  ([wpFull.w0, wpFull.w1, wpFull.w2, wpFull.w3, wpFull.w4, wpFull.w5].map F64.ofBits = [2, 1, -1, 4, -1, 1].map F64.ofInt) ∧
  ([wpP2.w0, wpP2.w1, wpP2.w2, wpP2.w3, wpP2.w4, wpP2.w5].map F64.ofBits = [2, 0, 0, 0, 0, 0].map F64.ofInt)

/-- The luma formula gives the corner values R148 lists (40_primitives.md R148). -/
def Obligations.LumaCornerValues : Prop :=
  luma 0 0 0 = F64.ofInt 0 ∧ (luma 1 0 0).toBits = cR ∧ (luma 0 1 0).toBits = cG ∧ (luma 0 0 1).toBits = cB ∧
  (luma 255 0 0).toBits = 0x404B1B4395810625#64 ∧ (luma 0 255 0).toBits = 0x4066CC083126E978#64 ∧
  (luma 0 0 255).toBits = 0x403269374BC6A7F0#64 ∧ (luma 255 255 255).toBits = 0x406FDFFFFFFFFFFF#64 ∧
  (luma 0x20 0x40 0x80).toBits = 0x404EE8A71DE69AD3#64

/-- Luma, differences, edge accumulators and blends stay in the ranges of R146 (40_primitives.md R146). -/
def Obligations.DatapathValuesStayInRange : Prop :=
  ∀ (p : Mat4 Word) (i j k l : Fin 4) (wp : WeightVector) (wab : CoeffPair) (c : Channel) (sel : Bool),
  (wp = wpFull ∨ wp = wpP2) → (wab = wab12 ∨ wab = wab34) →
  ((0) * (unitsPerOne : Int) ≤ ((matricesOf p).luma i j).units ∧ ((matricesOf p).luma i j).units ≤ 255 * (unitsPerOne : Int)) ∧
  ((0) * (unitsPerOne : Int) ≤ (df ((matricesOf p).luma i j) ((matricesOf p).luma k l)).units ∧ (df ((matricesOf p).luma i j) ((matricesOf p).luma k l)).units ≤ 255 * (unitsPerOne : Int)) ∧
  ((-1020) * (unitsPerOne : Int) ≤ (dw1 wp (matricesOf p).luma).units ∧ (dw1 wp (matricesOf p).luma).units ≤ 4080 * (unitsPerOne : Int)) ∧
  ((-1020) * (unitsPerOne : Int) ≤ (dw2 wp (matricesOf p).luma).units ∧ (dw2 wp (matricesOf p).luma).units ≤ 4080 * (unitsPerOne : Int)) ∧
  ((-5100) * (unitsPerOne : Int) ≤ (dEdge wp (matricesOf p).luma).units ∧ (dEdge wp (matricesOf p).luma).units ≤ 5100 * (unitsPerOne : Int)) ∧
  ((-90) * (unitsPerOne : Int) ≤ (blendAcc sel wab ((matricesOf p).ch c)).units ∧ (blendAcc sel wab ((matricesOf p).ch c)).units ≤ 345 * (unitsPerOne : Int))

/-- sel is d_edge <= 0, which is the exact comparison dw1 <= dw2; a tie selects the anti-diagonal blend (R206). -/
def Obligations.SelComparesTheAccumulators : Prop :=
  (∀ (wp : WeightVector) (y : Mat4 F64), (edgeSel wp y = true ↔ (dEdge wp y).units ≤ 0) ∧
    (edgeSel wp y = true ↔ (dw1 wp y).units ≤ (dw2 wp y).units) ∧ (dw1 wp y = dw2 wp y → edgeSel wp y = true)) ∧
  (∀ (wab : CoeffPair) (m : Mat4 Nat), blendAcc true wab m = blendAnti wab m ∧ blendAcc false wab m = blendMain wab m)

/-- Under WP_P2 the accumulators are twice the first terms, so sel compares A0 with B0 (42_edge.md R207). -/
def Obligations.Pass2SelUsesTheFirstTermOnly : Prop :=
  ∀ y : Mat4 F64, (dw1 wpP2 y).units = 2 * (edgeA0 y).units ∧ (dw2 wpP2 y).units = 2 * (edgeB0 y).units ∧
  (edgeSel wpP2 y = true ↔ (edgeA0 y).units ≤ (edgeB0 y).units)

/-- A flat luma matrix gives zero accumulators and sel = true under every weight vector (42_edge.md R208(a)). -/
def Obligations.FlatLumaIsATie : Prop :=
  ∀ (wp : WeightVector) (v : F64), dw1 wp (fun _ _ => v) = F64.ofInt 0 ∧ dw2 wp (fun _ _ => v) = F64.ofInt 0 ∧
  dEdge wp (fun _ _ => v) = F64.ofInt 0 ∧ edgeSel wp (fun _ _ => v) = true

/-- Every interpolated channel lies in the inclusive range of its four inner samples (R229). -/
def Obligations.InterpolationStaysInTheLocalRange : Prop :=
  (∀ (sel : Bool) (wab : CoeffPair) (m : Mat4 Nat), (∀ i j, m i j ≤ 255) →
    (rangeLo m : Int) ≤ (antiRing sel wab m).ceil ∧ (antiRing sel wab m).ceil ≤ (rangeHi m : Int) ∧
    clampValue (antiRing sel wab m).ceil 0 255 = (antiRing sel wab m).ceil ∧
    rangeLo m ≤ interpChannel sel wab m ∧ interpChannel sel wab m ≤ rangeHi m ∧
    (∀ v, m 1 1 = v → m 2 1 = v → m 1 2 = v → m 2 2 = v → interpChannel sel wab m = v)) ∧
  (∃ m : Mat4 Nat, (∀ i j, m i j ≤ 255) ∧ rangeLo m < rangeHi m ∧ interpChannel true wab12 m = rangeHi m) ∧
  (∃ m : Mat4 Nat, (∀ i j, m i j ≤ 255) ∧ rangeLo m < rangeHi m ∧ interpChannel true wab12 m = rangeLo m)

/-- Packing places the four channels, and packing the channels of a pixel gives it back (R103). -/
def Obligations.PixelPackingLaws : Prop :=
  (∀ r g b a : Nat, r ≤ 255 → g ≤ 255 → b ≤ 255 → a ≤ 255 →
    (pack r g b a).toNat = a * 2 ^ 24 + b * 2 ^ 16 + g * 2 ^ 8 + r ∧ channelOf .r (pack r g b a) = r ∧
    channelOf .g (pack r g b a) = g ∧ channelOf .b (pack r g b a) = b ∧ channelOf .a (pack r g b a) = a) ∧
  (∀ p : Word, pack (channelOf .r p) (channelOf .g p) (channelOf .b p) (channelOf .a p) = p)

/-- The orchestrator issues the step its PHASE and SP name and then moves SP, changes pass or completes (44_passes.md R270; 44_passes.md R271; 44_passes.md R272; log 6). -/
def Obligations.OrchestratorTransitions : Prop :=
  ∀ s : State, s.pointerOk = true →
  (s.phase = .p1 → s.issue = some (.p1Blk s.sp.x s.sp.y) ∧
    (s.sp.x.toNat + 2 < 2 * s.width.toNat →
      s.advance = { s with sp := ⟨BitVec.ofNat 20 (s.sp.x.toNat + 2), s.sp.y, s.sp.sub⟩ }) ∧
    (s.sp.x.toNat + 2 = 2 * s.width.toNat → s.sp.y.toNat + 2 < 2 * s.height.toNat →
      s.advance = { s with sp := ⟨0#20, BitVec.ofNat 20 (s.sp.y.toNat + 2), s.sp.sub⟩ }) ∧
    (s.sp.x.toNat + 2 = 2 * s.width.toNat → s.sp.y.toNat + 2 = 2 * s.height.toNat →
      s.advance = { s with phase := .p2, sp := ⟨0#20, 0#20, .tr⟩, wp := wpP2, wab := wab34 })) ∧
  (s.phase = .p2 → s.sp.sub = .tr → s.issue = some (.p2Tr s.sp.x s.sp.y) ∧
    s.advance = { s with sp := ⟨s.sp.x, s.sp.y, .bl⟩ }) ∧
  (s.phase = .p2 → s.sp.sub = .bl → s.issue = some (.p2Bl s.sp.x s.sp.y) ∧
    (s.sp.x.toNat + 2 < 2 * s.width.toNat →
      s.advance = { s with sp := ⟨BitVec.ofNat 20 (s.sp.x.toNat + 2), s.sp.y, .tr⟩ }) ∧
    (s.sp.x.toNat + 2 = 2 * s.width.toNat → s.sp.y.toNat + 2 < 2 * s.height.toNat →
      s.advance = { s with sp := ⟨0#20, BitVec.ofNat 20 (s.sp.y.toNat + 2), .tr⟩ }) ∧
    (s.sp.x.toNat + 2 = 2 * s.width.toNat → s.sp.y.toNat + 2 = 2 * s.height.toNat →
      s.advance = { s with phase := .p3, wp := wpFull, wab := wab12
                           sp := ⟨BitVec.ofNat 20 (2 * s.width.toNat - 1), BitVec.ofNat 20 (2 * s.height.toNat - 1), .tr⟩ })) ∧
  (s.phase = .p3 → s.issue = some (.p3Px s.sp.x s.sp.y) ∧
    (0 < s.sp.x.toNat → s.advance = { s with sp := ⟨BitVec.ofNat 20 (s.sp.x.toNat - 1), s.sp.y, s.sp.sub⟩ }) ∧
    (s.sp.x.toNat = 0 → 0 < s.sp.y.toNat → s.advance = { s with
      sp := ⟨BitVec.ofNat 20 (2 * s.width.toNat - 1), BitVec.ofNat 20 (s.sp.y.toNat - 1), s.sp.sub⟩ }) ∧
    (s.sp.x.toNat = 0 → s.sp.y.toNat = 0 → s.advance = { s with phase := .idle, done := true }))

/-- The action of the last P3_PX 0, 0 writes DST and sets IDLE, BUSY = 0, PASS = 0 and DONE = 1; irq follows (R272). -/
def Obligations.CompletionIsOneActionWithTheLastWrite : Prop :=
  ∀ s : State, s.Inv → s.phase = .p3 → s.sp.x = 0#20 → s.sp.y = 0#20 → s.inputs = [] →
  ∃ t, step s = .next t ∧ t.dstRead 0 = s.newPixel .p3 wpFull wab12 0 0 ∧ (∀ k, k ≠ 0 → t.dstRead k = s.dstRead k) ∧
    t = { s with phase := .idle, done := true, dst := t.dst, sp := t.sp, wp := t.wp, wab := t.wab } ∧ t.busy = false ∧
    t.pass = 0#2 ∧ t.irq = s.irqEn ∧ (∀ u, step t = .next u → u = t)

/-- A run with only turns of CORE to come issues exactly the loops of pass 1, pass 2 and pass 3, in order (44_passes.md R250; 44_passes.md R252; 44_passes.md R255; 44_passes.md R257; 44_passes.md R270). -/
def Obligations.RunIssuesTheLoopsInOrder : Prop :=
  ∀ s : State, s.AtRunStart → s.issuedIn (7 * (s.width.toNat * s.height.toNat)) = runOrder s.width.toNat s.height.toNat ∧
  ((forwardBlocks s.width.toNat s.height.toNat).flatMap fun b => [Instr.p2Tr b.1 b.2, Instr.p2Bl b.1 b.2]).length =
    2 * (s.width.toNat * s.height.toNat)

/-- An accepted run with only turns of CORE to come completes after exactly 7*W*H steps (R277). -/
def Obligations.RunTakesSevenWHSteps : Prop :=
  ∀ s : State, s.AtRunStart →
  (∀ n, n < 7 * (s.width.toNat * s.height.toNat) → ∃ t, Host.Core.run core n s = .next t ∧ State.busy t = true) ∧
  (∃ t : State, Host.Core.run core (7 * (s.width.toNat * s.height.toNat)) s = .next t ∧ t.phase = .idle ∧ t.done = true ∧
    t.width = s.width ∧ t.height = s.height ∧ t.srcLen = s.srcLen ∧ t.irqEn = s.irqEn ∧ t.src = s.src)

/-- With only turns of CORE to come, the result of a run depends on the source words alone, not on what DST held, and leaves the rest of DST (44_passes.md R276; 44_passes.md R275). -/
def Obligations.RunResultIgnoresPriorDst : Prop :=
  ∀ s t : State, s.AtRunStart → t.AtRunStart → s.SameSource t →
  ∃ u v : State, Host.Core.run core (7 * (s.width.toNat * s.height.toNat)) s = .next u ∧
    Host.Core.run core (7 * (s.width.toNat * s.height.toNat)) t = .next v ∧
    (∀ k, k < 4 * (s.width.toNat * s.height.toNat) → u.dstRead k = v.dstRead k) ∧
    (∀ k, 4 * (s.width.toNat * s.height.toNat) ≤ k → u.dstRead k = s.dstRead k ∧ v.dstRead k = t.dstRead k)

/-- Alpha never influences a colour channel: two states alike but for alpha stay so under every turn of CORE (42_edge.md R208(c); 40_primitives.md R148). -/
def Obligations.AlphaNeverReachesColour : Prop :=
  ∀ s t u : State, s.AlikeButAlpha t → s.inputs = [] → step s = .next u → ∃ v, step t = .next v ∧ u.AlikeButAlpha v

/-- No step operation writes a DST index at or above 4*W*H, and none writes SRC or a register (44_passes.md R275; 10_state.md R46). -/
def Obligations.StepsWriteOnlyTheImage : Prop :=
  ∀ (i : Instr) (s t : State), isStepOperation i → exec i s = .next t →
  t = { s with dst := t.dst } ∧ ∀ k, 4 * (s.width.toNat * s.height.toNat) ≤ k → t.dstRead k = s.dstRead k

/-- While BUSY no operation changes SRC, WIDTH, HEIGHT or SRC_LEN (10_state.md R45; 20_memory.md R83; 45_host.md R303). -/
def Obligations.BusyKeepsSourceAndConfiguration : Prop :=
  ∀ (i : Instr) (s t : State), s.busy = true → exec i s = .next t →
  t.src = s.src ∧ t.width = s.width ∧ t.height = s.height ∧ t.srcLen = s.srcLen ∧ t.capacity = s.capacity ∧
  t.phase = s.phase ∧ t.sp = s.sp ∧ t.wp = s.wp ∧ t.wab = s.wab

/-- Only a CTRL write with START = 1 and a valid configuration leaves IDLE (45_host.md R300; 60_exceptions.md R340). -/
def Obligations.OnlyStartLeavesIdle : Prop :=
  ∀ s t : State, step s = .next t → s.busy = false → t.busy = true →
  (∃ (w : BitVec 64) (rest : List Input) (data : Word), s.inputs = .host w :: rest ∧ decode (.hostTx w) = .regWr 0#28 data ∧
    data.getLsbD 0 = true) ∧ s.configOk = true ∧ t.phase = .p1 ∧ t.sp = scanStart

/-- irq is IRQ_EN and (DONE or ERR); it rises only by completion or by a CTRL write (enable, or a refused START) (60_exceptions.md R330; 60_exceptions.md R331). -/
def Obligations.IrqRisesOnlyByItsSources : Prop :=
  (∀ s : State, s.irq = (s.irqEn && (s.done || s.err))) ∧
  ∀ s t : State, s.Inv → step s = .next t → s.irq = false → t.irq = true →
  (s.phase = .p3 ∧ s.sp.x = 0#20 ∧ s.sp.y = 0#20 ∧ s.irqEn = true ∧ t.phase = .idle ∧ t.done = true) ∨
  (∃ (w : BitVec 64) (rest : List Input) (data : Word), s.inputs = .host w :: rest ∧ decode (.hostTx w) = .regWr 0#28 data ∧
    data.getLsbD 1 = true ∧ (data.getLsbD 0 = false ∧ (s.done = true ∨ s.err = true) ∨
      data.getLsbD 0 = true ∧ s.busy = false ∧ t.err = true))

/-- While IDLE a turn of CORE changes nothing (R340). -/
def Obligations.IdleCoreDoesNothing : Prop :=
  (∀ s : State, s.phase = .idle → s.inputs = [] → step s = .next s) ∧
  (∀ (s : State) (rest : List Input), s.phase = .idle → s.inputs = .core :: rest → step s = .next { s with inputs := rest })

/-- After reset the registers hold the values of R48 and irq is 0 (10_state.md R48). -/
def Obligations.ResetStateHasTheSpecValues : Prop :=
  State.reset.irqEn = false ∧ State.reset.statusWord = 0#32 ∧ State.reset.done = false ∧ State.reset.err = false ∧
  State.reset.errcode = 0#4 ∧ State.reset.width = 0#16 ∧ State.reset.height = 0#16 ∧ State.reset.srcLen = 0#32 ∧
  State.reset.capacity = Config.maxSrcPixels ∧ 1 ≤ Config.maxSrcPixels ∧ Config.maxSrcPixels ≤ 2 ^ 26 ∧
  State.reset.phase = .idle ∧ State.reset.busy = false ∧ State.reset.pass = 0#2 ∧ State.reset.irq = false

/-- Reset, at any time, idles the machine with the values of R48, sets no DONE, and forgets every written word (70_reset_and_hazards.md R350; 70_reset_and_hazards.md R351; log 2; log 9; log 14). -/
def Obligations.ResetAtAnyTimeAbandonsTheRun : Prop :=
  ∀ (s : State) (rest : List Input), s.inputs = .reset :: rest →
  ∃ t, step s = .next t ∧ t.irqEn = false ∧ t.statusWord = 0#32 ∧ t.done = false ∧ t.err = false ∧ t.errcode = 0#4 ∧
    t.width = 0#16 ∧ t.height = 0#16 ∧ t.srcLen = 0#32 ∧ t.capacity = s.capacity ∧ t.phase = .idle ∧ t.busy = false ∧
    t.irq = false ∧ t.inputs = rest ∧
    (∀ k, t.srcRead k = Config.resetWord (s.resets + 1) .src k ∧ t.dstRead k = Config.resetWord (s.resets + 1) .dst k) ∧
    (∀ u, t.inputs = [] → step t = .next u → u = t)

/-- Every step keeps the invariant: the register rules of R39, the checked configuration, the pointer, WP and WAB, and the memories (10_state.md R39; 45_host.md R303; 44_passes.md R271; 20_memory.md R74). -/
def Obligations.EveryStepKeepsTheInvariant : Prop :=
  ∀ s t : State, s.Inv → step s = .next t → t.Inv

/-- The state after reset satisfies the invariant (10_state.md R48; 10_state.md R39). -/
def Obligations.ResetSatisfiesTheInvariant : Prop :=
  State.reset.Inv

/-- BUSY and PASS, DONE, ERR and ERRCODE are related as R39 says after reset and after every step from a state where the invariant holds (R39). -/
def Obligations.RegisterInvariantsHold : Prop :=
  (∀ t : State, t = State.reset ∨ (∃ s : State, s.Inv ∧ step s = .next t) →
    (t.busy = true → t.done = false ∧ t.err = false ∧ t.errcode = 0#4 ∧ (t.pass = 1#2 ∨ t.pass = 2#2 ∨ t.pass = 3#2)) ∧
    (t.busy = false → t.pass = 0#2) ∧ (t.err = false ↔ t.errcode = 0#4) ∧ ¬(t.done = true ∧ t.err = true))

/-- From a state of the invariant every turn the hardware has answers a next state (44_passes.md R250; 60_exceptions.md R320; 45_host.md R290). -/
def Obligations.HardwareStepsNeverStop : Prop :=
  ∀ s : State, s.Inv → s.hardwareTurn = true → SafeStep s
end

