-- ==== Sys2Proof/Laws/Binary64.lean ====
section
/-! SUPPORT. The laws of the binary64 arithmetic: the bit position, the rounding shift and its error, and what is exact. -/

namespace Sys2Proof.Machine

theorem topBitBelow_eq_log2 (n p : Nat) (h : p < 2 ^ 2 ^ n) : topBitBelow n p = Nat.log2 p := by
  induction n generalizing p with
  | zero =>
    have hp : p = 0 ∨ p = 1 := by norm_num at h; omega
    rcases hp with rfl | rfl <;> rfl
  | succ n ih =>
    unfold topBitBelow
    have hpos : 0 < 2 ^ 2 ^ n := Nat.pow_pos (by norm_num)
    split
    · rename_i h0
      exact ih p ((Nat.div_eq_zero_iff_lt hpos).1 h0)
    · rename_i h0
      have hsq : (2 : Nat) ^ 2 ^ (n + 1) = 2 ^ 2 ^ n * 2 ^ 2 ^ n := by rw [← pow_add]; congr 1; ring
      have hq : p / 2 ^ 2 ^ n < 2 ^ 2 ^ n := Nat.div_lt_of_lt_mul (by rw [← hsq]; exact h)
      have hp0 : p ≠ 0 := fun hp => h0 (by simp [hp])
      rw [ih _ hq]
      symm
      rw [Nat.log2_eq_iff hp0]
      have hl := (Nat.log2_eq_iff h0).1 rfl
      constructor
      · rw [pow_add]
        exact le_trans (Nat.mul_le_mul_left _ hl.1) (Nat.mul_div_le p _)
      · rw [Nat.add_assoc, pow_add]
        exact (Nat.div_lt_iff_lt_mul hpos).1 hl.2 |>.trans_eq (Nat.mul_comm _ _)

/-- `topBit` is the position of the highest set bit. -/
theorem topBit_eq_log2 (p : Nat) : topBit p = Nat.log2 p := by
  unfold topBit
  split
  · rename_i h; exact topBitBelow_eq_log2 12 p h
  · rfl

@[simp] theorem roundShift_zero_left (k : Nat) : roundShift 0 k = 0 := by
  simp [roundShift]

@[simp] theorem roundShift_zero_right (p : Nat) : roundShift p 0 = p := by
  simp [roundShift, Nat.mod_one]

/-- The rounding shift of an exact multiple is exact. -/
theorem roundShift_of_dvd (q k : Nat) : roundShift (q * 2 ^ k) k = q := by
  simp [roundShift]

/-- The rounding shift is off by at most one half. -/
theorem roundShift_error (p k : Nat) :
    2 * p ≤ 2 * (roundShift p k * 2 ^ k) + 2 ^ k ∧ 2 * (roundShift p k * 2 ^ k) ≤ 2 * p + 2 ^ k := by
  have hd := Nat.div_add_mod p (2 ^ k)
  have hm := Nat.mod_lt p (show 0 < 2 ^ k from Nat.two_pow_pos k)
  have hc : 2 ^ k * (p / 2 ^ k) = p / 2 ^ k * 2 ^ k := Nat.mul_comm _ _
  have he := Nat.mod_lt (p / 2 ^ k) (show 0 < 2 by norm_num)
  unfold roundShift
  split
  · constructor <;> omega
  · split
    · rw [Nat.add_mul]; constructor <;> omega
    · have : p / 2 ^ k % 2 = 0 ∨ p / 2 ^ k % 2 = 1 := by omega
      rcases this with h | h <;> rw [h, Nat.add_mul] <;> constructor <;> omega

@[simp] theorem F64.round_zero (s : Nat) : F64.round 0 s = ⟨0⟩ := by
  simp [F64.round, roundMagnitude]

/-- Rounding keeps the sign: a value that is not negative rounds to one that is not negative. -/
theorem F64.round_nonneg {n : Int} (s : Nat) (h : 0 ≤ n) : 0 ≤ (F64.round n s).units := by
  simp [F64.round, not_lt.mpr h]

theorem F64.round_nonpos {n : Int} (s : Nat) (h : n ≤ 0) : (F64.round n s).units ≤ 0 := by
  rcases h.lt_or_eq with h | rfl
  · simp [F64.round, h]
  · simp

/-- Rounding is odd. -/
theorem F64.round_neg (n : Int) (s : Nat) : (F64.round (-n) s).units = -(F64.round n s).units := by
  rcases lt_trichotomy n 0 with h | rfl | h
  · simp [F64.round, h, not_lt.mpr h.le]
  · simp
  · simp [F64.round, h, not_lt.mpr h.le]

end Sys2Proof.Machine
end

