-- ==== Sys2Proof/Laws/State.lean ====
section
/-! SUPPORT. One lemma per field and named update of State, true by rfl, so that no proof unfolds an update. -/

namespace Sys2Proof.Machine

variable (s : State)

@[simp] theorem State.respond_irqEn (v : Word) : (s.respond v).irqEn = s.irqEn := rfl
@[simp] theorem State.respond_done (v : Word) : (s.respond v).done = s.done := rfl
@[simp] theorem State.respond_err (v : Word) : (s.respond v).err = s.err := rfl
@[simp] theorem State.respond_errcode (v : Word) : (s.respond v).errcode = s.errcode := rfl
@[simp] theorem State.respond_width (v : Word) : (s.respond v).width = s.width := rfl
@[simp] theorem State.respond_height (v : Word) : (s.respond v).height = s.height := rfl
@[simp] theorem State.respond_srcLen (v : Word) : (s.respond v).srcLen = s.srcLen := rfl
@[simp] theorem State.respond_capacity (v : Word) : (s.respond v).capacity = s.capacity := rfl
@[simp] theorem State.respond_phase (v : Word) : (s.respond v).phase = s.phase := rfl
@[simp] theorem State.respond_sp (v : Word) : (s.respond v).sp = s.sp := rfl
@[simp] theorem State.respond_wp (v : Word) : (s.respond v).wp = s.wp := rfl
@[simp] theorem State.respond_wab (v : Word) : (s.respond v).wab = s.wab := rfl
@[simp] theorem State.respond_src (v : Word) : (s.respond v).src = s.src := rfl
@[simp] theorem State.respond_dst (v : Word) : (s.respond v).dst = s.dst := rfl
@[simp] theorem State.respond_inputs (v : Word) : (s.respond v).inputs = s.inputs := rfl
@[simp] theorem State.respond_rdata (v : Word) : (s.respond v).rdata = some v := rfl
@[simp] theorem State.respond_draws (v : Word) : (s.respond v).draws = s.draws := rfl
@[simp] theorem State.respond_resets (v : Word) : (s.respond v).resets = s.resets := rfl

@[simp] theorem State.acknowledge_irqEn : s.acknowledge.irqEn = s.irqEn := rfl
@[simp] theorem State.acknowledge_done : s.acknowledge.done = s.done := rfl
@[simp] theorem State.acknowledge_err : s.acknowledge.err = s.err := rfl
@[simp] theorem State.acknowledge_errcode : s.acknowledge.errcode = s.errcode := rfl
@[simp] theorem State.acknowledge_width : s.acknowledge.width = s.width := rfl
@[simp] theorem State.acknowledge_height : s.acknowledge.height = s.height := rfl
@[simp] theorem State.acknowledge_srcLen : s.acknowledge.srcLen = s.srcLen := rfl
@[simp] theorem State.acknowledge_capacity : s.acknowledge.capacity = s.capacity := rfl
@[simp] theorem State.acknowledge_phase : s.acknowledge.phase = s.phase := rfl
@[simp] theorem State.acknowledge_sp : s.acknowledge.sp = s.sp := rfl
@[simp] theorem State.acknowledge_wp : s.acknowledge.wp = s.wp := rfl
@[simp] theorem State.acknowledge_wab : s.acknowledge.wab = s.wab := rfl
@[simp] theorem State.acknowledge_src : s.acknowledge.src = s.src := rfl
@[simp] theorem State.acknowledge_dst : s.acknowledge.dst = s.dst := rfl
@[simp] theorem State.acknowledge_inputs : s.acknowledge.inputs = s.inputs := rfl
@[simp] theorem State.acknowledge_rdata : s.acknowledge.rdata = none := rfl
@[simp] theorem State.acknowledge_draws : s.acknowledge.draws = s.draws := rfl
@[simp] theorem State.acknowledge_resets : s.acknowledge.resets = s.resets := rfl

@[simp] theorem State.srcWrite_irqEn (k : Nat) (v : Word) : (s.srcWrite k v).irqEn = s.irqEn := rfl
@[simp] theorem State.srcWrite_done (k : Nat) (v : Word) : (s.srcWrite k v).done = s.done := rfl
@[simp] theorem State.srcWrite_err (k : Nat) (v : Word) : (s.srcWrite k v).err = s.err := rfl
@[simp] theorem State.srcWrite_errcode (k : Nat) (v : Word) : (s.srcWrite k v).errcode = s.errcode := rfl
@[simp] theorem State.srcWrite_width (k : Nat) (v : Word) : (s.srcWrite k v).width = s.width := rfl
@[simp] theorem State.srcWrite_height (k : Nat) (v : Word) : (s.srcWrite k v).height = s.height := rfl
@[simp] theorem State.srcWrite_srcLen (k : Nat) (v : Word) : (s.srcWrite k v).srcLen = s.srcLen := rfl
@[simp] theorem State.srcWrite_capacity (k : Nat) (v : Word) : (s.srcWrite k v).capacity = s.capacity := rfl
@[simp] theorem State.srcWrite_phase (k : Nat) (v : Word) : (s.srcWrite k v).phase = s.phase := rfl
@[simp] theorem State.srcWrite_sp (k : Nat) (v : Word) : (s.srcWrite k v).sp = s.sp := rfl
@[simp] theorem State.srcWrite_wp (k : Nat) (v : Word) : (s.srcWrite k v).wp = s.wp := rfl
@[simp] theorem State.srcWrite_wab (k : Nat) (v : Word) : (s.srcWrite k v).wab = s.wab := rfl
@[simp] theorem State.srcWrite_src (k : Nat) (v : Word) : (s.srcWrite k v).src = Memory.set s.src k v := rfl
@[simp] theorem State.srcWrite_dst (k : Nat) (v : Word) : (s.srcWrite k v).dst = s.dst := rfl
@[simp] theorem State.srcWrite_inputs (k : Nat) (v : Word) : (s.srcWrite k v).inputs = s.inputs := rfl
@[simp] theorem State.srcWrite_rdata (k : Nat) (v : Word) : (s.srcWrite k v).rdata = s.rdata := rfl
@[simp] theorem State.srcWrite_draws (k : Nat) (v : Word) : (s.srcWrite k v).draws = s.draws := rfl
@[simp] theorem State.srcWrite_resets (k : Nat) (v : Word) : (s.srcWrite k v).resets = s.resets := rfl

@[simp] theorem State.dstWrite_irqEn (k : Nat) (v : Word) : (s.dstWrite k v).irqEn = s.irqEn := rfl
@[simp] theorem State.dstWrite_done (k : Nat) (v : Word) : (s.dstWrite k v).done = s.done := rfl
@[simp] theorem State.dstWrite_err (k : Nat) (v : Word) : (s.dstWrite k v).err = s.err := rfl
@[simp] theorem State.dstWrite_errcode (k : Nat) (v : Word) : (s.dstWrite k v).errcode = s.errcode := rfl
@[simp] theorem State.dstWrite_width (k : Nat) (v : Word) : (s.dstWrite k v).width = s.width := rfl
@[simp] theorem State.dstWrite_height (k : Nat) (v : Word) : (s.dstWrite k v).height = s.height := rfl
@[simp] theorem State.dstWrite_srcLen (k : Nat) (v : Word) : (s.dstWrite k v).srcLen = s.srcLen := rfl
@[simp] theorem State.dstWrite_capacity (k : Nat) (v : Word) : (s.dstWrite k v).capacity = s.capacity := rfl
@[simp] theorem State.dstWrite_phase (k : Nat) (v : Word) : (s.dstWrite k v).phase = s.phase := rfl
@[simp] theorem State.dstWrite_sp (k : Nat) (v : Word) : (s.dstWrite k v).sp = s.sp := rfl
@[simp] theorem State.dstWrite_wp (k : Nat) (v : Word) : (s.dstWrite k v).wp = s.wp := rfl
@[simp] theorem State.dstWrite_wab (k : Nat) (v : Word) : (s.dstWrite k v).wab = s.wab := rfl
@[simp] theorem State.dstWrite_src (k : Nat) (v : Word) : (s.dstWrite k v).src = s.src := rfl
@[simp] theorem State.dstWrite_dst (k : Nat) (v : Word) : (s.dstWrite k v).dst = Memory.set s.dst k v := rfl
@[simp] theorem State.dstWrite_inputs (k : Nat) (v : Word) : (s.dstWrite k v).inputs = s.inputs := rfl
@[simp] theorem State.dstWrite_rdata (k : Nat) (v : Word) : (s.dstWrite k v).rdata = s.rdata := rfl
@[simp] theorem State.dstWrite_draws (k : Nat) (v : Word) : (s.dstWrite k v).draws = s.draws := rfl
@[simp] theorem State.dstWrite_resets (k : Nat) (v : Word) : (s.dstWrite k v).resets = s.resets := rfl

@[simp] theorem State.enterPass_irqEn (p : Phase) (q : StepPointer) : (s.enterPass p q).irqEn = s.irqEn := rfl
@[simp] theorem State.enterPass_done (p : Phase) (q : StepPointer) : (s.enterPass p q).done = s.done := rfl
@[simp] theorem State.enterPass_err (p : Phase) (q : StepPointer) : (s.enterPass p q).err = s.err := rfl
@[simp] theorem State.enterPass_errcode (p : Phase) (q : StepPointer) : (s.enterPass p q).errcode = s.errcode := rfl
@[simp] theorem State.enterPass_width (p : Phase) (q : StepPointer) : (s.enterPass p q).width = s.width := rfl
@[simp] theorem State.enterPass_height (p : Phase) (q : StepPointer) : (s.enterPass p q).height = s.height := rfl
@[simp] theorem State.enterPass_srcLen (p : Phase) (q : StepPointer) : (s.enterPass p q).srcLen = s.srcLen := rfl
@[simp] theorem State.enterPass_capacity (p : Phase) (q : StepPointer) : (s.enterPass p q).capacity = s.capacity := rfl
@[simp] theorem State.enterPass_phase (p : Phase) (q : StepPointer) : (s.enterPass p q).phase = p := rfl
@[simp] theorem State.enterPass_sp (p : Phase) (q : StepPointer) : (s.enterPass p q).sp = q := rfl
@[simp] theorem State.enterPass_wp (p : Phase) (q : StepPointer) : (s.enterPass p q).wp = weightsOf p := rfl
@[simp] theorem State.enterPass_wab (p : Phase) (q : StepPointer) : (s.enterPass p q).wab = coeffsOf p := rfl
@[simp] theorem State.enterPass_src (p : Phase) (q : StepPointer) : (s.enterPass p q).src = s.src := rfl
@[simp] theorem State.enterPass_dst (p : Phase) (q : StepPointer) : (s.enterPass p q).dst = s.dst := rfl
@[simp] theorem State.enterPass_inputs (p : Phase) (q : StepPointer) : (s.enterPass p q).inputs = s.inputs := rfl
@[simp] theorem State.enterPass_rdata (p : Phase) (q : StepPointer) : (s.enterPass p q).rdata = s.rdata := rfl
@[simp] theorem State.enterPass_draws (p : Phase) (q : StepPointer) : (s.enterPass p q).draws = s.draws := rfl
@[simp] theorem State.enterPass_resets (p : Phase) (q : StepPointer) : (s.enterPass p q).resets = s.resets := rfl

@[simp] theorem State.complete_irqEn : s.complete.irqEn = s.irqEn := rfl
@[simp] theorem State.complete_done : s.complete.done = true := rfl
@[simp] theorem State.complete_err : s.complete.err = s.err := rfl
@[simp] theorem State.complete_errcode : s.complete.errcode = s.errcode := rfl
@[simp] theorem State.complete_width : s.complete.width = s.width := rfl
@[simp] theorem State.complete_height : s.complete.height = s.height := rfl
@[simp] theorem State.complete_srcLen : s.complete.srcLen = s.srcLen := rfl
@[simp] theorem State.complete_capacity : s.complete.capacity = s.capacity := rfl
@[simp] theorem State.complete_phase : s.complete.phase = .idle := rfl
@[simp] theorem State.complete_sp : s.complete.sp = s.sp := rfl
@[simp] theorem State.complete_wp : s.complete.wp = s.wp := rfl
@[simp] theorem State.complete_wab : s.complete.wab = s.wab := rfl
@[simp] theorem State.complete_src : s.complete.src = s.src := rfl
@[simp] theorem State.complete_dst : s.complete.dst = s.dst := rfl
@[simp] theorem State.complete_inputs : s.complete.inputs = s.inputs := rfl
@[simp] theorem State.complete_rdata : s.complete.rdata = s.rdata := rfl
@[simp] theorem State.complete_draws : s.complete.draws = s.draws := rfl
@[simp] theorem State.complete_resets : s.complete.resets = s.resets := rfl

@[simp] theorem State.raisePrecondition_irqEn (c : BitVec 4) : (s.raisePrecondition c).irqEn = s.irqEn := rfl
@[simp] theorem State.raisePrecondition_done (c : BitVec 4) : (s.raisePrecondition c).done = s.done := rfl
@[simp] theorem State.raisePrecondition_err (c : BitVec 4) : (s.raisePrecondition c).err = true := rfl
@[simp] theorem State.raisePrecondition_errcode (c : BitVec 4) : (s.raisePrecondition c).errcode = c := rfl
@[simp] theorem State.raisePrecondition_width (c : BitVec 4) : (s.raisePrecondition c).width = s.width := rfl
@[simp] theorem State.raisePrecondition_height (c : BitVec 4) : (s.raisePrecondition c).height = s.height := rfl
@[simp] theorem State.raisePrecondition_srcLen (c : BitVec 4) : (s.raisePrecondition c).srcLen = s.srcLen := rfl
@[simp] theorem State.raisePrecondition_capacity (c : BitVec 4) : (s.raisePrecondition c).capacity = s.capacity := rfl
@[simp] theorem State.raisePrecondition_phase (c : BitVec 4) : (s.raisePrecondition c).phase = s.phase := rfl
@[simp] theorem State.raisePrecondition_sp (c : BitVec 4) : (s.raisePrecondition c).sp = s.sp := rfl
@[simp] theorem State.raisePrecondition_wp (c : BitVec 4) : (s.raisePrecondition c).wp = s.wp := rfl
@[simp] theorem State.raisePrecondition_wab (c : BitVec 4) : (s.raisePrecondition c).wab = s.wab := rfl
@[simp] theorem State.raisePrecondition_src (c : BitVec 4) : (s.raisePrecondition c).src = s.src := rfl
@[simp] theorem State.raisePrecondition_dst (c : BitVec 4) : (s.raisePrecondition c).dst = s.dst := rfl
@[simp] theorem State.raisePrecondition_inputs (c : BitVec 4) : (s.raisePrecondition c).inputs = s.inputs := rfl
@[simp] theorem State.raisePrecondition_rdata (c : BitVec 4) : (s.raisePrecondition c).rdata = s.rdata := rfl
@[simp] theorem State.raisePrecondition_draws (c : BitVec 4) : (s.raisePrecondition c).draws = s.draws := rfl
@[simp] theorem State.raisePrecondition_resets (c : BitVec 4) : (s.raisePrecondition c).resets = s.resets := rfl

@[simp] theorem State.clearError_irqEn : s.clearError.irqEn = s.irqEn := rfl
@[simp] theorem State.clearError_done : s.clearError.done = s.done := rfl
@[simp] theorem State.clearError_err : s.clearError.err = false := rfl
@[simp] theorem State.clearError_errcode : s.clearError.errcode = 0#4 := rfl
@[simp] theorem State.clearError_width : s.clearError.width = s.width := rfl
@[simp] theorem State.clearError_height : s.clearError.height = s.height := rfl
@[simp] theorem State.clearError_srcLen : s.clearError.srcLen = s.srcLen := rfl
@[simp] theorem State.clearError_capacity : s.clearError.capacity = s.capacity := rfl
@[simp] theorem State.clearError_phase : s.clearError.phase = s.phase := rfl
@[simp] theorem State.clearError_sp : s.clearError.sp = s.sp := rfl
@[simp] theorem State.clearError_wp : s.clearError.wp = s.wp := rfl
@[simp] theorem State.clearError_wab : s.clearError.wab = s.wab := rfl
@[simp] theorem State.clearError_src : s.clearError.src = s.src := rfl
@[simp] theorem State.clearError_dst : s.clearError.dst = s.dst := rfl
@[simp] theorem State.clearError_inputs : s.clearError.inputs = s.inputs := rfl
@[simp] theorem State.clearError_rdata : s.clearError.rdata = s.rdata := rfl
@[simp] theorem State.clearError_draws : s.clearError.draws = s.draws := rfl
@[simp] theorem State.clearError_resets : s.clearError.resets = s.resets := rfl

@[simp] theorem State.clearDone_irqEn : s.clearDone.irqEn = s.irqEn := rfl
@[simp] theorem State.clearDone_done : s.clearDone.done = false := rfl
@[simp] theorem State.clearDone_err : s.clearDone.err = s.err := rfl
@[simp] theorem State.clearDone_errcode : s.clearDone.errcode = s.errcode := rfl
@[simp] theorem State.clearDone_width : s.clearDone.width = s.width := rfl
@[simp] theorem State.clearDone_height : s.clearDone.height = s.height := rfl
@[simp] theorem State.clearDone_srcLen : s.clearDone.srcLen = s.srcLen := rfl
@[simp] theorem State.clearDone_capacity : s.clearDone.capacity = s.capacity := rfl
@[simp] theorem State.clearDone_phase : s.clearDone.phase = s.phase := rfl
@[simp] theorem State.clearDone_sp : s.clearDone.sp = s.sp := rfl
@[simp] theorem State.clearDone_wp : s.clearDone.wp = s.wp := rfl
@[simp] theorem State.clearDone_wab : s.clearDone.wab = s.wab := rfl
@[simp] theorem State.clearDone_src : s.clearDone.src = s.src := rfl
@[simp] theorem State.clearDone_dst : s.clearDone.dst = s.dst := rfl
@[simp] theorem State.clearDone_inputs : s.clearDone.inputs = s.inputs := rfl
@[simp] theorem State.clearDone_rdata : s.clearDone.rdata = s.rdata := rfl
@[simp] theorem State.clearDone_draws : s.clearDone.draws = s.draws := rfl
@[simp] theorem State.clearDone_resets : s.clearDone.resets = s.resets := rfl

@[simp] theorem State.drawDst_irqEn : s.drawDst.irqEn = s.irqEn := rfl
@[simp] theorem State.drawDst_done : s.drawDst.done = s.done := rfl
@[simp] theorem State.drawDst_err : s.drawDst.err = s.err := rfl
@[simp] theorem State.drawDst_errcode : s.drawDst.errcode = s.errcode := rfl
@[simp] theorem State.drawDst_width : s.drawDst.width = s.width := rfl
@[simp] theorem State.drawDst_height : s.drawDst.height = s.height := rfl
@[simp] theorem State.drawDst_srcLen : s.drawDst.srcLen = s.srcLen := rfl
@[simp] theorem State.drawDst_capacity : s.drawDst.capacity = s.capacity := rfl
@[simp] theorem State.drawDst_phase : s.drawDst.phase = s.phase := rfl
@[simp] theorem State.drawDst_sp : s.drawDst.sp = s.sp := rfl
@[simp] theorem State.drawDst_wp : s.drawDst.wp = s.wp := rfl
@[simp] theorem State.drawDst_wab : s.drawDst.wab = s.wab := rfl
@[simp] theorem State.drawDst_src : s.drawDst.src = s.src := rfl
@[simp] theorem State.drawDst_dst : s.drawDst.dst = s.dst := rfl
@[simp] theorem State.drawDst_inputs : s.drawDst.inputs = s.inputs := rfl
@[simp] theorem State.drawDst_rdata : s.drawDst.rdata = some (Config.busyDstRead s.draws) := rfl
@[simp] theorem State.drawDst_draws : s.drawDst.draws = s.draws + 1 := rfl
@[simp] theorem State.drawDst_resets : s.drawDst.resets = s.resets := rfl

@[simp] theorem State.applyReset_irqEn : s.applyReset.irqEn = false := rfl
@[simp] theorem State.applyReset_done : s.applyReset.done = false := rfl
@[simp] theorem State.applyReset_err : s.applyReset.err = false := rfl
@[simp] theorem State.applyReset_errcode : s.applyReset.errcode = 0#4 := rfl
@[simp] theorem State.applyReset_width : s.applyReset.width = 0#16 := rfl
@[simp] theorem State.applyReset_height : s.applyReset.height = 0#16 := rfl
@[simp] theorem State.applyReset_srcLen : s.applyReset.srcLen = 0#32 := rfl
@[simp] theorem State.applyReset_capacity : s.applyReset.capacity = s.capacity := rfl
@[simp] theorem State.applyReset_phase : s.applyReset.phase = .idle := rfl
@[simp] theorem State.applyReset_src : s.applyReset.src = [] := rfl
@[simp] theorem State.applyReset_dst : s.applyReset.dst = [] := rfl
@[simp] theorem State.applyReset_inputs : s.applyReset.inputs = s.inputs := rfl
@[simp] theorem State.applyReset_rdata : s.applyReset.rdata = none := rfl
@[simp] theorem State.applyReset_draws : s.applyReset.draws = s.draws := rfl
@[simp] theorem State.applyReset_resets : s.applyReset.resets = s.resets + 1 := rfl

end Sys2Proof.Machine
end

