-- ==== Sys2Proof/Laws/Memory.lean ====
section
/-! SUPPORT. The laws of the pixel memories: read after write, and the canonical form and bound that every operation keeps. -/

namespace Sys2Proof.Machine

@[simp] theorem Memory.get?_set_same (m : Memory) (a : Nat) (v : Word) : Memory.get? (Memory.set m a v) a = some v := by
  induction m with
  | nil => simp [Memory.set, Memory.get?]
  | cons c m ih =>
    obtain ⟨k, w⟩ := c
    unfold Memory.set
    split
    · simp [Memory.get?]
    · split
      · simp [Memory.get?]
      · simp [Memory.get?, *]

theorem Memory.get?_set_other (m : Memory) {a b : Nat} (v : Word) (h : b ≠ a) :
    Memory.get? (Memory.set m a v) b = Memory.get? m b := by
  induction m with
  | nil => simp [Memory.set, Memory.get?, h]
  | cons c m ih =>
    obtain ⟨k, w⟩ := c
    unfold Memory.set
    split
    · simp [Memory.get?, h]
    · split
      · rename_i h2
        simp [Memory.get?, h, ← h2]
      · simp [Memory.get?, ih]

/-- The first index of a memory lies above `a`. -/
def Memory.startsAbove (a : Nat) : Memory → Prop
  | [] => True
  | (k, _) :: _ => a < k

theorem Memory.wf_cons (a : Nat) (v : Word) (m : Memory) :
    Memory.wf ((a, v) :: m) = true ↔ Memory.startsAbove a m ∧ Memory.wf m = true := by
  cases m with
  | nil => simp [Memory.wf, Memory.startsAbove]
  | cons c m => simp [Memory.wf, Memory.startsAbove]

theorem Memory.startsAbove_set {b a : Nat} (v : Word) (m : Memory) (hm : Memory.startsAbove b m) (h : b < a) :
    Memory.startsAbove b (Memory.set m a v) := by
  cases m with
  | nil => simpa [Memory.set, Memory.startsAbove] using h
  | cons c m =>
    unfold Memory.set
    split
    · simpa [Memory.startsAbove] using h
    · split <;> simp_all [Memory.startsAbove]

/-- A write keeps the canonical form. -/
theorem Memory.set_wf (m : Memory) (a : Nat) (v : Word) (h : Memory.wf m = true) : Memory.wf (Memory.set m a v) = true := by
  induction m with
  | nil => simp [Memory.set, Memory.wf]
  | cons c m ih =>
    obtain ⟨k, w⟩ := c
    have hc := (Memory.wf_cons k w m).1 h
    unfold Memory.set
    split
    · exact (Memory.wf_cons _ _ _).2 ⟨by simpa [Memory.startsAbove], h⟩
    · split
      · rename_i h2
        subst h2
        exact (Memory.wf_cons _ _ _).2 hc
      · exact (Memory.wf_cons _ _ _).2 ⟨Memory.startsAbove_set v m hc.1 (by omega), ih hc.2⟩

/-- A write below a bound keeps every written index below it. -/
theorem Memory.set_below (m : Memory) (a n : Nat) (v : Word) (h : Memory.below m n = true) (ha : a < n) :
    Memory.below (Memory.set m a v) n = true := by
  induction m with
  | nil => simpa [Memory.set, Memory.below] using ha
  | cons c m ih =>
    obtain ⟨k, w⟩ := c
    simp only [Memory.below, List.all_cons, Bool.and_eq_true, decide_eq_true_eq] at h ih ⊢
    unfold Memory.set
    split
    · simp [ha, h.1, h.2]
    · split
      · simp [ha, h.2]
      · simp [h.1, ih h.2]

/-- In a canonical memory an index above the first has no entry below it. -/
theorem Memory.get?_of_startsAbove (m : Memory) (a : Nat) (hw : Memory.wf m = true) (h : Memory.startsAbove a m) :
    Memory.get? m a = none := by
  induction m with
  | nil => rfl
  | cons c m ih =>
    obtain ⟨k, w⟩ := c
    have hc := (Memory.wf_cons k w m).1 hw
    have hk : a < k := h
    have : Memory.startsAbove a m := by
      cases m with
      | nil => trivial
      | cons d m => exact lt_trans hk hc.1
    simp [Memory.get?, Nat.ne_of_lt hk, ih hc.2 this]

/-- Canonical memories that read alike are equal data. -/
theorem Memory.ext_of_wf (m n : Memory) (hm : Memory.wf m = true) (hn : Memory.wf n = true)
    (h : ∀ a, Memory.get? m a = Memory.get? n a) : m = n := by
  induction m generalizing n with
  | nil =>
    cases n with
    | nil => rfl
    | cons d n => have := h d.1; simp [Memory.get?] at this
  | cons c m ih =>
    obtain ⟨k, w⟩ := c
    have hc := (Memory.wf_cons k w m).1 hm
    cases n with
    | nil => have := h k; simp [Memory.get?] at this
    | cons d n =>
      obtain ⟨l, u⟩ := d
      have hd := (Memory.wf_cons l u n).1 hn
      have hkl : k = l := by
        rcases lt_trichotomy k l with hlt | heq | hgt
        · have e := h k
          rw [Memory.get?_of_startsAbove ((l, u) :: n) k hn hlt] at e
          simp [Memory.get?] at e
        · exact heq
        · have e := h l
          rw [Memory.get?_of_startsAbove ((k, w) :: m) l hm hgt] at e
          simp [Memory.get?] at e
      subst hkl
      have hwu : w = u := by simpa [Memory.get?] using h k
      subst hwu
      congr 1
      refine ih n hc.2 hd.2 fun a => ?_
      by_cases ha : a = k
      · subst ha
        rw [Memory.get?_of_startsAbove m a hc.2 hc.1, Memory.get?_of_startsAbove n a hd.2 hd.1]
      · simpa [Memory.get?, ha] using h a

@[simp] theorem State.srcRead_srcWrite_same (s : State) (k : Nat) (v : Word) : (s.srcWrite k v).srcRead k = v := by
  simp [State.srcRead]

theorem State.srcRead_srcWrite_other (s : State) {k a : Nat} (v : Word) (h : a ≠ k) :
    (s.srcWrite k v).srcRead a = s.srcRead a := by
  simp [State.srcRead, Memory.get?_set_other _ v h]

@[simp] theorem State.dstRead_dstWrite_same (s : State) (k : Nat) (v : Word) : (s.dstWrite k v).dstRead k = v := by
  simp [State.dstRead]

theorem State.dstRead_dstWrite_other (s : State) {k a : Nat} (v : Word) (h : a ≠ k) :
    (s.dstWrite k v).dstRead a = s.dstRead a := by
  simp [State.dstRead, Memory.get?_set_other _ v h]

@[simp] theorem State.dstWrites_nil (s : State) : s.dstWrites [] = s := rfl

@[simp] theorem State.dstWrites_cons (s : State) (w : Nat × Word) (ws : List (Nat × Word)) :
    s.dstWrites (w :: ws) = (s.dstWrite w.1 w.2).dstWrites ws := rfl

/-- DST writes change nothing but DST. -/
theorem State.dstWrites_frame (s : State) (ws : List (Nat × Word)) :
    s.dstWrites ws = { s with dst := (s.dstWrites ws).dst } := by
  induction ws generalizing s with
  | nil => rfl
  | cons w ws ih => rw [State.dstWrites_cons, ih]; simp [State.dstWrite]

/-- DST writes leave every index they do not name. -/
theorem State.dstRead_dstWrites_other (s : State) (ws : List (Nat × Word)) (a : Nat) (h : ∀ w ∈ ws, w.1 ≠ a) :
    (s.dstWrites ws).dstRead a = s.dstRead a := by
  induction ws generalizing s with
  | nil => rfl
  | cons w ws ih =>
    rw [State.dstWrites_cons, ih _ fun u hu => h u (List.mem_cons_of_mem _ hu)]
    exact State.dstRead_dstWrite_other s w.2 (h w List.mem_cons_self).symm

theorem State.dstWrites_dst_wf (s : State) (ws : List (Nat × Word)) (h : Memory.wf s.dst = true) :
    Memory.wf (s.dstWrites ws).dst = true := by
  induction ws generalizing s with
  | nil => exact h
  | cons w ws ih => exact ih _ (by simpa using Memory.set_wf _ _ _ h)

theorem State.dstWrites_dst_below (s : State) (ws : List (Nat × Word)) (n : Nat) (h : Memory.below s.dst n = true)
    (hw : ∀ w ∈ ws, w.1 < n) : Memory.below (s.dstWrites ws).dst n = true := by
  induction ws generalizing s with
  | nil => exact h
  | cons w ws ih =>
    exact ih _ (by simpa using Memory.set_below _ _ _ _ h (hw w List.mem_cons_self))
      fun u hu => hw u (List.mem_cons_of_mem _ hu)

/-- Reset memory is canonical and has nothing written. -/
theorem State.reset_memory : Memory.wf State.reset.src = true ∧ Memory.wf State.reset.dst = true ∧
    State.reset.src = [] ∧ State.reset.dst = [] := ⟨rfl, rfl, rfl, rfl⟩

end Sys2Proof.Machine
end

