-- ==== Sys2Proof/Laws/Ops.lean ====
section
/-! SUPPORT. What each shared operation can do, said once: START, the register writes, the step operations, the orchestrator's
advance, and the frame of every operation of the opcode table. -/

namespace Sys2Proof.Machine

theorem State.busy_eq (s : State) : s.busy = true ↔ s.phase ≠ .idle := by
  cases h : s.phase <;> simp [State.busy, h]

theorem State.busy_false (s : State) : s.busy = false ↔ s.phase = .idle := by
  cases h : s.phase <;> simp [State.busy, h]

/-- START is ignored, refuses the run with a code, or begins pass 1 (R300). -/
theorem State.start_cases (s : State) :
    (s.busy = true ∧ s.start = s) ∨
    (s.busy = false ∧ s.precondition ≠ 0#4 ∧ s.start = s.clearDone.clearError.raisePrecondition s.precondition) ∨
    (s.busy = false ∧ s.precondition = 0#4 ∧ s.start = s.clearDone.clearError.enterPass .p1 scanStart) := by
  have hp : s.clearDone.clearError.precondition = s.precondition := rfl
  unfold State.start
  cases hb : s.busy
  · by_cases h : s.precondition = 0#4
    · exact .inr (.inr ⟨rfl, h, by simp [hp, h]⟩)
    · exact .inr (.inl ⟨rfl, h, by simp [hp, h]⟩)
  · exact .inl ⟨rfl, rfl⟩

/-- Check passes exactly on a configuration that fits (R321). -/
theorem State.precondition_zero (s : State) : s.precondition = 0#4 ↔ s.configOk = true := by
  unfold State.precondition State.configOk
  split_ifs <;> simp_all
  omega

/-- START writes no memory, no configuration and none of the model's own fields. -/
theorem State.start_frame (s : State) : s.start = { s with
    done := s.start.done, err := s.start.err, errcode := s.start.errcode, phase := s.start.phase, sp := s.start.sp,
    wp := s.start.wp, wab := s.start.wab } := by
  rcases s.start_cases with ⟨_, h⟩ | ⟨_, _, h⟩ | ⟨_, _, h⟩
  · rw [h]
  · rw [h]; rfl
  · rw [h]; rfl

/-- A REG_WR writes no memory, not CAPACITY and none of the model's own fields. -/
theorem State.regWrite_frame (s : State) (off : BitVec 28) (data : Word) : s.regWrite off data = { s with
    irqEn := (s.regWrite off data).irqEn, done := (s.regWrite off data).done, err := (s.regWrite off data).err,
    errcode := (s.regWrite off data).errcode, width := (s.regWrite off data).width, height := (s.regWrite off data).height,
    srcLen := (s.regWrite off data).srcLen, phase := (s.regWrite off data).phase, sp := (s.regWrite off data).sp,
    wp := (s.regWrite off data).wp, wab := (s.regWrite off data).wab } := by
  unfold State.regWrite
  split
  · unfold State.writeCtrl
    dsimp only
    split
    · rw [State.start_frame]
    · rfl
  · unfold State.writeStatus
    dsimp only
    split <;> split <;> rfl
  · unfold State.writeWidth; split <;> rfl
  · unfold State.writeHeight; split <;> rfl
  · unfold State.writeSrcLen; split <;> rfl
  · rfl

/-- While BUSY a REG_WR keeps the configuration and the run (R35 to R37, R300). -/
theorem State.regWrite_busy (s : State) (off : BitVec 28) (data : Word) (h : s.busy = true) :
    (s.regWrite off data).width = s.width ∧ (s.regWrite off data).height = s.height ∧
    (s.regWrite off data).srcLen = s.srcLen ∧ (s.regWrite off data).phase = s.phase ∧
    (s.regWrite off data).sp = s.sp ∧ (s.regWrite off data).wp = s.wp ∧ (s.regWrite off data).wab = s.wab := by
  have hb : State.start { s with irqEn := data.getLsbD 1 } = { s with irqEn := data.getLsbD 1 } := by
    unfold State.start
    exact if_pos h
  unfold State.regWrite
  split
  · unfold State.writeCtrl
    dsimp only
    split
    · rw [hb]; simp
    · simp
  · unfold State.writeStatus
    dsimp only
    split <;> split <;> simp
  · simp [State.writeWidth, h]
  · simp [State.writeHeight, h]
  · simp [State.writeSrcLen, h]
  · simp

/-- A step operation that completes had legal coordinates and accesses, and did exactly its DST writes. -/
theorem runStep_next {s t : State} {ok : Bool} {pat : Pattern} {x y : Nat} {ws : List (Nat × Word)}
    (h : runStep s ok pat x y ws = .next t) :
    ok = true ∧ s.gatherInRange pat x y = true ∧ (∀ w ∈ ws, w.1 < s.spaceSize .dst) ∧ t = s.dstWrites ws := by
  unfold runStep at h
  split at h
  · cases h
  · split at h
    · cases h
    · rename_i h1 h2
      simp only [Bool.not_eq_true, Bool.not_eq_false', Bool.and_eq_true, List.all_eq_true, decide_eq_true_eq] at h1 h2
      exact ⟨h1, h2.1, h2.2, by injection h with h; exact h.symm⟩

/-- When a step operation's coordinates and accesses are legal it completes. -/
theorem runStep_eq_next {s : State} {ok : Bool} {pat : Pattern} {x y : Nat} {ws : List (Nat × Word)} (h1 : ok = true)
    (h2 : s.gatherInRange pat x y = true) (h3 : ∀ w ∈ ws, w.1 < s.spaceSize .dst) :
    runStep s ok pat x y ws = .next (s.dstWrites ws) := by
  have h4 : (ws.all fun w => decide (w.1 < s.spaceSize .dst)) = true := by simpa using h3
  simp [runStep, h1, h2, h4]

/-- A step operation with legal coordinates and a read or write beyond its memory faults (log 11). -/
theorem runStep_eq_fault {s : State} {ok : Bool} {pat : Pattern} {x y : Nat} {ws : List (Nat × Word)} (h1 : ok = true)
    (h2 : s.gatherInRange pat x y = false ∨ ∃ w ∈ ws, s.spaceSize .dst ≤ w.1) :
    runStep s ok pat x y ws = .fault .coreOffsetOutOfRange := by
  rcases h2 with h | ⟨w, hw, hle⟩
  · simp [runStep, h1, h]
  · have h4 : (ws.all fun w => decide (w.1 < s.spaceSize .dst)) = false := by
      rw [List.all_eq_false]
      exact ⟨w, hw, by simpa using hle⟩
    simp [runStep, h1, h4]

/-- The advance writes no memory and no register but PHASE, SP, WP, WAB and DONE (R270, R272). -/
theorem State.advance_frame (s : State) : s.advance = { s with
    done := s.advance.done, phase := s.advance.phase, sp := s.advance.sp, wp := s.advance.wp, wab := s.advance.wab } := by
  have hn : ∀ (u : State) (p : Phase) (q : StepPointer), u.nextBlock p q = { u with
      phase := (u.nextBlock p q).phase, sp := (u.nextBlock p q).sp, wp := (u.nextBlock p q).wp,
      wab := (u.nextBlock p q).wab } := by
    intro u p q
    unfold State.nextBlock
    split <;> rfl
  unfold State.advance
  split
  · rfl
  · rw [hn]
  · rfl
  · rw [hn]
  · split
    · rfl
    · split <;> rfl

end Sys2Proof.Machine
end

