-- ==== Sys2Proof/Laws/Exec.lean ====
section
/-! SUPPORT. The frame of every operation: what it can change when it answers a next state. -/

namespace Sys2Proof.Machine

/-- A step operation changes nothing but DST. -/
theorem runStep_frame {s t : State} {ok : Bool} {pat : Pattern} {x y : Nat} {ws : List (Nat × Word)}
    (h : runStep s ok pat x y ws = .next t) : t = { s with dst := t.dst } := by
  obtain ⟨_, _, _, rfl⟩ := runStep_next h
  exact State.dstWrites_frame s ws

/-- The operations that write a pixel memory or a register are SRC_WR, REG_WR and the four step operations; what is left of
the state is the model's response path and the count of free draws. -/
theorem exec_next_cases {i : Instr} {s t : State} (h : exec i s = .next t) :
    (∃ off data, i = .regWr off data ∧ t = (s.regWrite off data).acknowledge) ∨
    (∃ off data, i = .srcWr off data ∧ s.busy = false ∧ off.toNat < s.capacity ∧
      t = (s.srcWrite off.toNat data).acknowledge) ∨
    (((∃ x y, i = .p1Blk x y ∨ i = .p2Tr x y ∨ i = .p2Bl x y) ∨ ∃ x y, i = .p3Px x y) ∧ t = { s with dst := t.dst }) ∨
    t = { s with rdata := t.rdata, draws := t.draws } := by
  cases i with
  | regWr off data => exact .inl ⟨off, data, rfl, by injection h with h; exact h.symm⟩
  | srcWr off data =>
    simp only [exec, execSrcWr] at h
    injection h with h
    by_cases hc : (!s.busy && decide (off.toNat < s.capacity)) = true
    · rw [if_pos hc] at h
      simp only [Bool.and_eq_true, Bool.not_eq_true', decide_eq_true_eq] at hc
      exact .inr (.inl ⟨off, data, rfl, hc.1, hc.2, h.symm⟩)
    · rw [if_neg hc] at h
      exact .inr (.inr (.inr (by subst h; rfl)))
  | dstRd off =>
    simp only [exec, execDstRd] at h
    injection h with h
    refine .inr (.inr (.inr ?_))
    subst h
    split
    · rfl
    · split <;> rfl
  | p1Blk x y => exact .inr (.inr (.inl ⟨by simp, runStep_frame h⟩))
  | p2Tr x y => exact .inr (.inr (.inl ⟨by simp, runStep_frame h⟩))
  | p2Bl x y => exact .inr (.inr (.inl ⟨by simp, runStep_frame h⟩))
  | p3Px x y => exact .inr (.inr (.inl ⟨by simp, runStep_frame h⟩))
  | regRd | srcRd | dstWr | rsvdSpaceRd3 | rsvdSpaceRd4 | rsvdSpaceRd5 | rsvdSpaceRd6 | rsvdSpaceRd7 | rsvdSpaceWr3
  | rsvdSpaceWr4 | rsvdSpaceWr5 | rsvdSpaceWr6 | rsvdSpaceWr7 =>
    refine .inr (.inr (.inr ?_))
    injection h with h
    subst h
    rfl
  | _ => cases h

end Sys2Proof.Machine
end

