-- ==== Sys2Proof/Laws/PerInstr.lean ====
section
/-! SUPPORT. Statements made once per constructor of Instr. TableRow: the encoder writes the fixed bits of the operation's row of
spec/opcode_table.json: the code word under the row's mask is the row's match (30_encoding.md R112). -/

namespace Sys2Proof.Laws

/-- A row of the table: its mask and its match, in the row's own format. -/
inductive Row where
  | hostTx (mask pattern : BitVec 64)
  | step (mask pattern : BitVec 48)

/-- The row of an operation, as spec/opcode_table.json gives it. -/
def rowOf : Instr → Row
  | .regRd _ => .hostTx 0xF000000000000000#64 0x0000000000000000#64
  | .srcRd _ => .hostTx 0xF000000000000000#64 0x1000000000000000#64
  | .dstRd _ => .hostTx 0xF000000000000000#64 0x2000000000000000#64
  | .regWr _ _ => .hostTx 0xF000000000000000#64 0x8000000000000000#64
  | .srcWr _ _ => .hostTx 0xF000000000000000#64 0x9000000000000000#64
  | .dstWr _ _ => .hostTx 0xF000000000000000#64 0xA000000000000000#64
  | .rsvdSpaceRd3 _ => .hostTx 0xF000000000000000#64 0x3000000000000000#64
  | .rsvdSpaceRd4 _ => .hostTx 0xF000000000000000#64 0x4000000000000000#64
  | .rsvdSpaceRd5 _ => .hostTx 0xF000000000000000#64 0x5000000000000000#64
  | .rsvdSpaceRd6 _ => .hostTx 0xF000000000000000#64 0x6000000000000000#64
  | .rsvdSpaceRd7 _ => .hostTx 0xF000000000000000#64 0x7000000000000000#64
  | .rsvdSpaceWr3 _ _ => .hostTx 0xF000000000000000#64 0xB000000000000000#64
  | .rsvdSpaceWr4 _ _ => .hostTx 0xF000000000000000#64 0xC000000000000000#64
  | .rsvdSpaceWr5 _ _ => .hostTx 0xF000000000000000#64 0xD000000000000000#64
  | .rsvdSpaceWr6 _ _ => .hostTx 0xF000000000000000#64 0xE000000000000000#64
  | .rsvdSpaceWr7 _ _ => .hostTx 0xF000000000000000#64 0xF000000000000000#64
  | .p1Blk _ _ => .step 0xFF0000000000#48 0x100000000000#48
  | .p2Tr _ _ => .step 0xFF0000000000#48 0x200000000000#48
  | .p2Bl _ _ => .step 0xFF0000000000#48 0x300000000000#48
  | .p3Px _ _ => .step 0xFF0000000000#48 0x400000000000#48
  | .rsvdOp0 _ _ _ => .step 0xF00000000000#48 0x000000000000#48
  | .rsvdOp5 _ _ _ => .step 0xF00000000000#48 0x500000000000#48
  | .rsvdOp6 _ _ _ => .step 0xF00000000000#48 0x600000000000#48
  | .rsvdOp7 _ _ _ => .step 0xF00000000000#48 0x700000000000#48
  | .rsvdOp8 _ _ _ => .step 0xF00000000000#48 0x800000000000#48
  | .rsvdOp9 _ _ _ => .step 0xF00000000000#48 0x900000000000#48
  | .rsvdOpA _ _ _ => .step 0xF00000000000#48 0xA00000000000#48
  | .rsvdOpB _ _ _ => .step 0xF00000000000#48 0xB00000000000#48
  | .rsvdOpC _ _ _ => .step 0xF00000000000#48 0xC00000000000#48
  | .rsvdOpD _ _ _ => .step 0xF00000000000#48 0xD00000000000#48
  | .rsvdOpE _ _ _ => .step 0xF00000000000#48 0xE00000000000#48
  | .rsvdOpF _ _ _ => .step 0xF00000000000#48 0xF00000000000#48
  | .rsvdP1BlkB43 _ _ _ => .step 0xF80000000000#48 0x180000000000#48
  | .rsvdP1BlkB42 _ _ _ => .step 0xFC0000000000#48 0x140000000000#48
  | .rsvdP1BlkB41 _ _ _ => .step 0xFE0000000000#48 0x120000000000#48
  | .rsvdP1BlkB40 _ _ => .step 0xFF0000000000#48 0x110000000000#48
  | .rsvdP2TrB43 _ _ _ => .step 0xF80000000000#48 0x280000000000#48
  | .rsvdP2TrB42 _ _ _ => .step 0xFC0000000000#48 0x240000000000#48
  | .rsvdP2TrB41 _ _ _ => .step 0xFE0000000000#48 0x220000000000#48
  | .rsvdP2TrB40 _ _ => .step 0xFF0000000000#48 0x210000000000#48
  | .rsvdP2BlB43 _ _ _ => .step 0xF80000000000#48 0x380000000000#48
  | .rsvdP2BlB42 _ _ _ => .step 0xFC0000000000#48 0x340000000000#48
  | .rsvdP2BlB41 _ _ _ => .step 0xFE0000000000#48 0x320000000000#48
  | .rsvdP2BlB40 _ _ => .step 0xFF0000000000#48 0x310000000000#48
  | .rsvdP3PxB43 _ _ _ => .step 0xF80000000000#48 0x480000000000#48
  | .rsvdP3PxB42 _ _ _ => .step 0xFC0000000000#48 0x440000000000#48
  | .rsvdP3PxB41 _ _ _ => .step 0xFE0000000000#48 0x420000000000#48
  | .rsvdP3PxB40 _ _ => .step 0xFF0000000000#48 0x410000000000#48

/-- The code word carries the row's fixed bits. -/
def matchesRow : Row → Code → Prop
  | .hostTx mask pattern, .hostTx w => w &&& mask = pattern
  | .step mask pattern, .stepDesc w => w &&& mask = pattern
  | .hostTx _ _, .stepDesc _ => False
  | .step _ _, .hostTx _ => False

/-- TableRow, for one operation. -/
def TableRow.Statement (i : Instr) : Prop := matchesRow (rowOf i) (encode i)

theorem and_append {a b : Nat} (x m : BitVec a) (y n : BitVec b) : (x ++ y) &&& (m ++ n) = (x &&& m) ++ (y &&& n) := by
  ext i hi
  simp only [BitVec.getElem_and, BitVec.getElem_append]
  split <;> simp

/-- Under the mask of the HOSTTX rows only bits 63:60 are left. -/
theorem hostTx_fixed (k : BitVec 4) (off : BitVec 28) (data : Word) :
    (k ++ off ++ data) &&& 0xF000000000000000#64 = k ++ 0#28 ++ 0#32 := by
  rw [show (0xF000000000000000#64) = (0xF#4 ++ 0#28) ++ 0#32 from by decide, and_append, and_append]
  simp only [show (0xF#4) = BitVec.allOnes 4 from by decide, BitVec.and_allOnes, BitVec.and_zero]

/-- Under a mask of OP and reserved bits only those are left. -/
theorem step_fixed (op r m : BitVec 4) (x y : BitVec 20) (mask : BitVec 48) (h : mask = 0xF#4 ++ m ++ 0#20 ++ 0#20) :
    (op ++ r ++ y ++ x) &&& mask = op ++ (r &&& m) ++ 0#20 ++ 0#20 := by
  rw [h, and_append, and_append, and_append, show (0xF#4) = BitVec.allOnes 4 from by decide]
  simp only [BitVec.and_allOnes, BitVec.and_zero]

/-- The reserved bits below a row's highest set one do not count. -/
theorem reserved_fixed3 (low : BitVec 3) : ((0b1#1 ++ low : BitVec 4) &&& 0x8#4) = 0x8#4 := by revert low; decide

theorem reserved_fixed2 (low : BitVec 2) : ((0b01#2 ++ low : BitVec 4) &&& 0xC#4) = 0x4#4 := by revert low; decide

theorem reserved_fixed1 (low : BitVec 1) : ((0b001#3 ++ low : BitVec 4) &&& 0xE#4) = 0x2#4 := by revert low; decide

theorem TableRow.regRd (off : BitVec 28) : TableRow.Statement (.regRd off) :=
  (hostTx_fixed _ _ _).trans (by decide)

theorem TableRow.srcRd (off : BitVec 28) : TableRow.Statement (.srcRd off) :=
  (hostTx_fixed _ _ _).trans (by decide)

theorem TableRow.dstRd (off : BitVec 28) : TableRow.Statement (.dstRd off) :=
  (hostTx_fixed _ _ _).trans (by decide)

theorem TableRow.regWr (off : BitVec 28) (data : Word) : TableRow.Statement (.regWr off data) :=
  (hostTx_fixed _ _ _).trans (by decide)

theorem TableRow.srcWr (off : BitVec 28) (data : Word) : TableRow.Statement (.srcWr off data) :=
  (hostTx_fixed _ _ _).trans (by decide)

theorem TableRow.dstWr (off : BitVec 28) (data : Word) : TableRow.Statement (.dstWr off data) :=
  (hostTx_fixed _ _ _).trans (by decide)

theorem TableRow.rsvdSpaceRd3 (off : BitVec 28) : TableRow.Statement (.rsvdSpaceRd3 off) :=
  (hostTx_fixed _ _ _).trans (by decide)

theorem TableRow.rsvdSpaceRd4 (off : BitVec 28) : TableRow.Statement (.rsvdSpaceRd4 off) :=
  (hostTx_fixed _ _ _).trans (by decide)

theorem TableRow.rsvdSpaceRd5 (off : BitVec 28) : TableRow.Statement (.rsvdSpaceRd5 off) :=
  (hostTx_fixed _ _ _).trans (by decide)

theorem TableRow.rsvdSpaceRd6 (off : BitVec 28) : TableRow.Statement (.rsvdSpaceRd6 off) :=
  (hostTx_fixed _ _ _).trans (by decide)

theorem TableRow.rsvdSpaceRd7 (off : BitVec 28) : TableRow.Statement (.rsvdSpaceRd7 off) :=
  (hostTx_fixed _ _ _).trans (by decide)

theorem TableRow.rsvdSpaceWr3 (off : BitVec 28) (data : Word) : TableRow.Statement (.rsvdSpaceWr3 off data) :=
  (hostTx_fixed _ _ _).trans (by decide)

theorem TableRow.rsvdSpaceWr4 (off : BitVec 28) (data : Word) : TableRow.Statement (.rsvdSpaceWr4 off data) :=
  (hostTx_fixed _ _ _).trans (by decide)

theorem TableRow.rsvdSpaceWr5 (off : BitVec 28) (data : Word) : TableRow.Statement (.rsvdSpaceWr5 off data) :=
  (hostTx_fixed _ _ _).trans (by decide)

theorem TableRow.rsvdSpaceWr6 (off : BitVec 28) (data : Word) : TableRow.Statement (.rsvdSpaceWr6 off data) :=
  (hostTx_fixed _ _ _).trans (by decide)

theorem TableRow.rsvdSpaceWr7 (off : BitVec 28) (data : Word) : TableRow.Statement (.rsvdSpaceWr7 off data) :=
  (hostTx_fixed _ _ _).trans (by decide)

theorem TableRow.p1Blk (x : BitVec 20) (y : BitVec 20) : TableRow.Statement (.p1Blk x y) :=
  (step_fixed _ _ 0xF#4 _ _ _ (by decide)).trans (by decide)

theorem TableRow.p2Tr (x : BitVec 20) (y : BitVec 20) : TableRow.Statement (.p2Tr x y) :=
  (step_fixed _ _ 0xF#4 _ _ _ (by decide)).trans (by decide)

theorem TableRow.p2Bl (x : BitVec 20) (y : BitVec 20) : TableRow.Statement (.p2Bl x y) :=
  (step_fixed _ _ 0xF#4 _ _ _ (by decide)).trans (by decide)

theorem TableRow.p3Px (x : BitVec 20) (y : BitVec 20) : TableRow.Statement (.p3Px x y) :=
  (step_fixed _ _ 0xF#4 _ _ _ (by decide)).trans (by decide)

theorem TableRow.rsvdOp0 (rsvd : BitVec 4) (x : BitVec 20) (y : BitVec 20) : TableRow.Statement (.rsvdOp0 rsvd x y) :=
  (step_fixed _ _ 0#4 _ _ _ (by decide)).trans (by simp)

theorem TableRow.rsvdOp5 (rsvd : BitVec 4) (x : BitVec 20) (y : BitVec 20) : TableRow.Statement (.rsvdOp5 rsvd x y) :=
  (step_fixed _ _ 0#4 _ _ _ (by decide)).trans (by simp)

theorem TableRow.rsvdOp6 (rsvd : BitVec 4) (x : BitVec 20) (y : BitVec 20) : TableRow.Statement (.rsvdOp6 rsvd x y) :=
  (step_fixed _ _ 0#4 _ _ _ (by decide)).trans (by simp)

theorem TableRow.rsvdOp7 (rsvd : BitVec 4) (x : BitVec 20) (y : BitVec 20) : TableRow.Statement (.rsvdOp7 rsvd x y) :=
  (step_fixed _ _ 0#4 _ _ _ (by decide)).trans (by simp)

theorem TableRow.rsvdOp8 (rsvd : BitVec 4) (x : BitVec 20) (y : BitVec 20) : TableRow.Statement (.rsvdOp8 rsvd x y) :=
  (step_fixed _ _ 0#4 _ _ _ (by decide)).trans (by simp)

theorem TableRow.rsvdOp9 (rsvd : BitVec 4) (x : BitVec 20) (y : BitVec 20) : TableRow.Statement (.rsvdOp9 rsvd x y) :=
  (step_fixed _ _ 0#4 _ _ _ (by decide)).trans (by simp)

theorem TableRow.rsvdOpA (rsvd : BitVec 4) (x : BitVec 20) (y : BitVec 20) : TableRow.Statement (.rsvdOpA rsvd x y) :=
  (step_fixed _ _ 0#4 _ _ _ (by decide)).trans (by simp)

theorem TableRow.rsvdOpB (rsvd : BitVec 4) (x : BitVec 20) (y : BitVec 20) : TableRow.Statement (.rsvdOpB rsvd x y) :=
  (step_fixed _ _ 0#4 _ _ _ (by decide)).trans (by simp)

theorem TableRow.rsvdOpC (rsvd : BitVec 4) (x : BitVec 20) (y : BitVec 20) : TableRow.Statement (.rsvdOpC rsvd x y) :=
  (step_fixed _ _ 0#4 _ _ _ (by decide)).trans (by simp)

theorem TableRow.rsvdOpD (rsvd : BitVec 4) (x : BitVec 20) (y : BitVec 20) : TableRow.Statement (.rsvdOpD rsvd x y) :=
  (step_fixed _ _ 0#4 _ _ _ (by decide)).trans (by simp)

theorem TableRow.rsvdOpE (rsvd : BitVec 4) (x : BitVec 20) (y : BitVec 20) : TableRow.Statement (.rsvdOpE rsvd x y) :=
  (step_fixed _ _ 0#4 _ _ _ (by decide)).trans (by simp)

theorem TableRow.rsvdOpF (rsvd : BitVec 4) (x : BitVec 20) (y : BitVec 20) : TableRow.Statement (.rsvdOpF rsvd x y) :=
  (step_fixed _ _ 0#4 _ _ _ (by decide)).trans (by simp)

theorem TableRow.rsvdP1BlkB43 (low : BitVec 3) (x : BitVec 20) (y : BitVec 20) : TableRow.Statement (.rsvdP1BlkB43 low x y) :=
  (step_fixed _ _ 0x8#4 _ _ _ (by decide)).trans (by rw [reserved_fixed3]; decide)

theorem TableRow.rsvdP1BlkB42 (low : BitVec 2) (x : BitVec 20) (y : BitVec 20) : TableRow.Statement (.rsvdP1BlkB42 low x y) :=
  (step_fixed _ _ 0xC#4 _ _ _ (by decide)).trans (by rw [reserved_fixed2]; decide)

theorem TableRow.rsvdP1BlkB41 (low : BitVec 1) (x : BitVec 20) (y : BitVec 20) : TableRow.Statement (.rsvdP1BlkB41 low x y) :=
  (step_fixed _ _ 0xE#4 _ _ _ (by decide)).trans (by rw [reserved_fixed1]; decide)

theorem TableRow.rsvdP1BlkB40 (x : BitVec 20) (y : BitVec 20) : TableRow.Statement (.rsvdP1BlkB40 x y) :=
  (step_fixed _ _ 0xF#4 _ _ _ (by decide)).trans (by decide)

theorem TableRow.rsvdP2TrB43 (low : BitVec 3) (x : BitVec 20) (y : BitVec 20) : TableRow.Statement (.rsvdP2TrB43 low x y) :=
  (step_fixed _ _ 0x8#4 _ _ _ (by decide)).trans (by rw [reserved_fixed3]; decide)

theorem TableRow.rsvdP2TrB42 (low : BitVec 2) (x : BitVec 20) (y : BitVec 20) : TableRow.Statement (.rsvdP2TrB42 low x y) :=
  (step_fixed _ _ 0xC#4 _ _ _ (by decide)).trans (by rw [reserved_fixed2]; decide)

theorem TableRow.rsvdP2TrB41 (low : BitVec 1) (x : BitVec 20) (y : BitVec 20) : TableRow.Statement (.rsvdP2TrB41 low x y) :=
  (step_fixed _ _ 0xE#4 _ _ _ (by decide)).trans (by rw [reserved_fixed1]; decide)

theorem TableRow.rsvdP2TrB40 (x : BitVec 20) (y : BitVec 20) : TableRow.Statement (.rsvdP2TrB40 x y) :=
  (step_fixed _ _ 0xF#4 _ _ _ (by decide)).trans (by decide)

theorem TableRow.rsvdP2BlB43 (low : BitVec 3) (x : BitVec 20) (y : BitVec 20) : TableRow.Statement (.rsvdP2BlB43 low x y) :=
  (step_fixed _ _ 0x8#4 _ _ _ (by decide)).trans (by rw [reserved_fixed3]; decide)

theorem TableRow.rsvdP2BlB42 (low : BitVec 2) (x : BitVec 20) (y : BitVec 20) : TableRow.Statement (.rsvdP2BlB42 low x y) :=
  (step_fixed _ _ 0xC#4 _ _ _ (by decide)).trans (by rw [reserved_fixed2]; decide)

theorem TableRow.rsvdP2BlB41 (low : BitVec 1) (x : BitVec 20) (y : BitVec 20) : TableRow.Statement (.rsvdP2BlB41 low x y) :=
  (step_fixed _ _ 0xE#4 _ _ _ (by decide)).trans (by rw [reserved_fixed1]; decide)

theorem TableRow.rsvdP2BlB40 (x : BitVec 20) (y : BitVec 20) : TableRow.Statement (.rsvdP2BlB40 x y) :=
  (step_fixed _ _ 0xF#4 _ _ _ (by decide)).trans (by decide)

theorem TableRow.rsvdP3PxB43 (low : BitVec 3) (x : BitVec 20) (y : BitVec 20) : TableRow.Statement (.rsvdP3PxB43 low x y) :=
  (step_fixed _ _ 0x8#4 _ _ _ (by decide)).trans (by rw [reserved_fixed3]; decide)

theorem TableRow.rsvdP3PxB42 (low : BitVec 2) (x : BitVec 20) (y : BitVec 20) : TableRow.Statement (.rsvdP3PxB42 low x y) :=
  (step_fixed _ _ 0xC#4 _ _ _ (by decide)).trans (by rw [reserved_fixed2]; decide)

theorem TableRow.rsvdP3PxB41 (low : BitVec 1) (x : BitVec 20) (y : BitVec 20) : TableRow.Statement (.rsvdP3PxB41 low x y) :=
  (step_fixed _ _ 0xE#4 _ _ _ (by decide)).trans (by rw [reserved_fixed1]; decide)

theorem TableRow.rsvdP3PxB40 (x : BitVec 20) (y : BitVec 20) : TableRow.Statement (.rsvdP3PxB40 x y) :=
  (step_fixed _ _ 0xF#4 _ _ _ (by decide)).trans (by decide)

end Sys2Proof.Laws
end

