-- ==== Sys2Proof/Tests/Slice0.lean ====
section
/-! SUPPORT. The model's own tests: ill-formed operations, one decoding per row of the opcode table, single steps with the values
of spec/95_test_vectors.md (named in each comment), and a witness for the hypotheses of each statement. -/

namespace Sys2Proof.Machine.Tests

/-- An idle machine: a W by H configuration that fits, MAX_SRC_PIXELS = `cap`, and the words SRC and DST hold. -/
def tIdle (w h cap : Nat) (src dst : Memory) : State :=
  { State.reset with
    width := BitVec.ofNat 16 w
    height := BitVec.ofNat 16 h
    srcLen := BitVec.ofNat 32 (w * h)
    capacity := cap
    src := src
    dst := dst }

/-- The diagonal source of 95_test_vectors.md 1.5: black, red, green, white. -/
def tDiagSrc : Memory := [(0, 0xFF000000#32), (1, 0xFF0000FF#32), (2, 0xFF00FF00#32), (3, 0xFFFFFFFF#32)]

/-- DST after pass 1 of the diagonal source (95_test_vectors.md 1.5). -/
def tDiagPass1 : Memory :=
  [(0, 0xFF000000#32), (1, 0xFF000000#32), (2, 0xFF0000FF#32), (3, 0xFF0000FF#32),
   (4, 0xFF000000#32), (5, 0xFF808080#32), (6, 0xFF0000FF#32), (7, 0xFFA180FF#32),
   (8, 0xFF00FF00#32), (9, 0xFF00FF00#32), (10, 0xFFFFFFFF#32), (11, 0xFFFFFFFF#32),
   (12, 0xFF00FF00#32), (13, 0xFFA1FF80#32), (14, 0xFFFFFFFF#32), (15, 0xFFFFFFFF#32)]

/-- DST after pass 2 of the diagonal source (95_test_vectors.md 1.5). -/
def tDiagPass2 : Memory :=
  [(0, 0xFF000000#32), (1, 0xFF000080#32), (2, 0xFF0000FF#32), (3, 0xFF0000FF#32),
   (4, 0xFF3B402A#32), (5, 0xFF808080#32), (6, 0xFF9D8CCF#32), (7, 0xFFA180FF#32),
   (8, 0xFF00FF00#32), (9, 0xFF80FF80#32), (10, 0xFFFFFFFF#32), (11, 0xFFFFFFFF#32),
   (12, 0xFF41FF2A#32), (13, 0xFFA1FF80#32), (14, 0xFFE1FFCF#32), (15, 0xFFFFFFFF#32)]

/-- The diagonal source, idle. -/
def tDiag (dst : Memory) : State := tIdle 2 2 16 tDiagSrc dst

/-- A run over the diagonal source in pass `p` at (x, y, sub). -/
def tRun (p : Phase) (x y : Nat) (sub : Sub) (dst : Memory) : State :=
  (tDiag dst).enterPass p ⟨BitVec.ofNat 20 x, BitVec.ofNat 20 y, sub⟩

/-- The 1x1 image of program PR4 at the last step of pass 3. -/
def tLast (irqEn : Bool) : State :=
  State.enterPass { tIdle 1 1 16 [(0, 0x80FF4010#32)] [(0, 0x80FF4010#32), (1, 0x80FF4010#32), (2, 0x80FF4010#32), (3, 0x80FF4010#32)]
    with irqEn := irqEn } .p3 ⟨0#20, 0#20, .tr⟩

/-- The state a step answers satisfies a test. -/
def nextIs (o : Host.Outcome State Fault Refusal) (p : State → Bool) : Bool :=
  match o with
  | .next s => p s
  | .fault _ => false
  | .refused _ => false

/-- The step answers a refusal `r`. -/
def refusedIs (o : Host.Outcome State Fault Refusal) (r : Refusal) : Bool :=
  match o with
  | .next _ => false
  | .fault _ => false
  | .refused q => decide (q = r)

/-- The words DST lists at the indices of the list. -/
def tDst (s : State) (ks : List Nat) : List (Option Word) := ks.map fun k => Memory.get? s.dst k

/-! ## Ill-formed operations -/

/-- ST8 and R111: odd X. -/
theorem test_wf_odd_x_refused :
    Instr.wf (.p1Blk 1#20 0#20) = false ∧ Instr.wf (.p2Tr 1#20 0#20) = false ∧ Instr.wf (.p2Bl 1#20 0#20) = false := by decide

/-- R111: odd Y. -/
theorem test_wf_odd_y_refused :
    Instr.wf (.p1Blk 0#20 1#20) = false ∧ Instr.wf (.p2Tr 0#20 1#20) = false ∧ Instr.wf (.p2Bl 0#20 1#20) = false := by decide

/-- R111: OW is at most 131070. -/
theorem test_wf_block_x_too_large_refused :
    Instr.wf (.p1Blk 131070#20 0#20) = false ∧ Instr.wf (.p2Tr 131070#20 0#20) = false ∧
    Instr.wf (.p2Bl 131070#20 0#20) = false := by decide

/-- R111: OH is at most 131070. -/
theorem test_wf_block_y_too_large_refused :
    Instr.wf (.p1Blk 0#20 131070#20) = false ∧ Instr.wf (.p2Tr 0#20 131070#20) = false ∧
    Instr.wf (.p2Bl 0#20 131070#20) = false := by decide

/-- R111. -/
theorem test_wf_pixel_too_large_refused :
    Instr.wf (.p3Px 131070#20 0#20) = false ∧ Instr.wf (.p3Px 0#20 131070#20) = false := by decide

/-- R108, R111: the largest legal operands. -/
theorem test_wf_limits_accepted :
    Instr.wf (.p1Blk 131068#20 131068#20) = true ∧ Instr.wf (.p2Tr 131068#20 0#20) = true ∧
    Instr.wf (.p2Bl 0#20 131068#20) = true ∧ Instr.wf (.p3Px 131069#20 131069#20) = true ∧ Instr.wf (.regWr 0xFFFFFFF#28 0xFFFFFFFF#32) = true := by decide

/-- ST5, ST6, ST7, ST9. -/
theorem test_wf_reserved_rows_refused :
    Instr.wf (.rsvdOp0 0#4 0#20 0#20) = false ∧ Instr.wf (.rsvdOp5 0#4 0#20 0#20) = false ∧
    Instr.wf (.rsvdP1BlkB40 0#20 0#20) = false ∧ Instr.wf (.rsvdP3PxB43 7#3 0xFFFFF#20 0xFFFFF#20) = false := by decide

/-! ## Decoding: a word written out from R104, R106, R109 and R111 for every row -/

/-- TX12. -/
theorem test_decode_regRd :
    decode (.hostTx 0x0000000112345678#64) = .regRd 1#28 := by decide

/-- TX13. -/
theorem test_decode_srcRd :
    decode (.hostTx 0x1000001000000000#64) = .srcRd 16#28 := by decide

/-- TX7. -/
theorem test_decode_dstRd :
    decode (.hostTx 0x2000000300000000#64) = .dstRd 3#28 := by decide

/-- TX9. -/
theorem test_decode_rsvdSpaceRd3 :
    decode (.hostTx 0x3000000000000000#64) = .rsvdSpaceRd3 0#28 := by decide

/-- R106: WR = 0, SPACE = 4; DATA is ignored (R105). -/
theorem test_decode_rsvdSpaceRd4 :
    decode (.hostTx 0x40ABCDE4FFFFFFFF#64) = .rsvdSpaceRd4 11259364#28 := by decide

/-- R106: WR = 0, SPACE = 5; DATA is ignored (R105). -/
theorem test_decode_rsvdSpaceRd5 :
    decode (.hostTx 0x50ABCDE5FFFFFFFF#64) = .rsvdSpaceRd5 11259365#28 := by decide

/-- R106: WR = 0, SPACE = 6; DATA is ignored (R105). -/
theorem test_decode_rsvdSpaceRd6 :
    decode (.hostTx 0x60ABCDE6FFFFFFFF#64) = .rsvdSpaceRd6 11259366#28 := by decide

/-- R106: WR = 0, SPACE = 7; DATA is ignored (R105). -/
theorem test_decode_rsvdSpaceRd7 :
    decode (.hostTx 0x70ABCDE7FFFFFFFF#64) = .rsvdSpaceRd7 11259367#28 := by decide

/-- TX2. -/
theorem test_decode_regWr :
    decode (.hostTx 0x8000000200000002#64) = .regWr 2#28 0x2#32 := by decide

/-- TX5. -/
theorem test_decode_srcWr :
    decode (.hostTx 0x90000001FFFFFFFF#64) = .srcWr 1#28 0xFFFFFFFF#32 := by decide

/-- TX8. -/
theorem test_decode_dstWr :
    decode (.hostTx 0xA000000012345678#64) = .dstWr 0#28 0x12345678#32 := by decide

/-- R106: WR = 1, SPACE = 3. -/
theorem test_decode_rsvdSpaceWr3 :
    decode (.hostTx 0xB0ABCDE389ABCDEF#64) = .rsvdSpaceWr3 11259363#28 0x89ABCDEF#32 := by decide

/-- R106: WR = 1, SPACE = 4. -/
theorem test_decode_rsvdSpaceWr4 :
    decode (.hostTx 0xC0ABCDE489ABCDEF#64) = .rsvdSpaceWr4 11259364#28 0x89ABCDEF#32 := by decide

/-- R106: WR = 1, SPACE = 5. -/
theorem test_decode_rsvdSpaceWr5 :
    decode (.hostTx 0xD0ABCDE589ABCDEF#64) = .rsvdSpaceWr5 11259365#28 0x89ABCDEF#32 := by decide

/-- R106: WR = 1, SPACE = 6. -/
theorem test_decode_rsvdSpaceWr6 :
    decode (.hostTx 0xE0ABCDE689ABCDEF#64) = .rsvdSpaceWr6 11259366#28 0x89ABCDEF#32 := by decide

/-- TX10. -/
theorem test_decode_rsvdSpaceWr7 :
    decode (.hostTx 0xFFFFFFFFFFFFFFFF#64) = .rsvdSpaceWr7 0xFFFFFFF#28 0xFFFFFFFF#32 := by decide

/-- ST1. -/
theorem test_decode_p1Blk :
    decode (.stepDesc 0x100000000002#48) = .p1Blk 0x2#20 0x0#20 := by decide

/-- R109, R110: OP = 2, Y = 10, X = 6. -/
theorem test_decode_p2Tr :
    decode (.stepDesc 0x200000A00006#48) = .p2Tr 0x6#20 0xA#20 := by decide

/-- ST3. -/
theorem test_decode_p2Bl :
    decode (.stepDesc 0x300000200000#48) = .p2Bl 0x0#20 0x2#20 := by decide

/-- ST4. -/
theorem test_decode_p3Px :
    decode (.stepDesc 0x400000100003#48) = .p3Px 0x3#20 0x1#20 := by decide

/-- ST5. -/
theorem test_decode_rsvdOp0 :
    decode (.stepDesc 0x000000000000#48) = .rsvdOp0 0#4 0x0#20 0x0#20 := by decide

/-- ST6. -/
theorem test_decode_rsvdOp5 :
    decode (.stepDesc 0x500000000000#48) = .rsvdOp5 0#4 0x0#20 0x0#20 := by decide

/-- R109, R111: OP = 6, bits 43:40 = 1001. -/
theorem test_decode_rsvdOp6 :
    decode (.stepDesc 0x696789A12345#48) = .rsvdOp6 0b1001#4 0x12345#20 0x6789A#20 := by decide

/-- R109, R111: OP = 7, bits 43:40 = 1001. -/
theorem test_decode_rsvdOp7 :
    decode (.stepDesc 0x796789A12345#48) = .rsvdOp7 0b1001#4 0x12345#20 0x6789A#20 := by decide

/-- R109, R111: OP = 8, bits 43:40 = 1001. -/
theorem test_decode_rsvdOp8 :
    decode (.stepDesc 0x896789A12345#48) = .rsvdOp8 0b1001#4 0x12345#20 0x6789A#20 := by decide

/-- R109, R111: OP = 9, bits 43:40 = 1001. -/
theorem test_decode_rsvdOp9 :
    decode (.stepDesc 0x996789A12345#48) = .rsvdOp9 0b1001#4 0x12345#20 0x6789A#20 := by decide

/-- R109, R111: OP = 10, bits 43:40 = 1001. -/
theorem test_decode_rsvdOpA :
    decode (.stepDesc 0xA96789A12345#48) = .rsvdOpA 0b1001#4 0x12345#20 0x6789A#20 := by decide

/-- R109, R111: OP = 11, bits 43:40 = 1001. -/
theorem test_decode_rsvdOpB :
    decode (.stepDesc 0xB96789A12345#48) = .rsvdOpB 0b1001#4 0x12345#20 0x6789A#20 := by decide

/-- R109, R111: OP = 12, bits 43:40 = 1001. -/
theorem test_decode_rsvdOpC :
    decode (.stepDesc 0xC96789A12345#48) = .rsvdOpC 0b1001#4 0x12345#20 0x6789A#20 := by decide

/-- R109, R111: OP = 13, bits 43:40 = 1001. -/
theorem test_decode_rsvdOpD :
    decode (.stepDesc 0xD96789A12345#48) = .rsvdOpD 0b1001#4 0x12345#20 0x6789A#20 := by decide

/-- R109, R111: OP = 14, bits 43:40 = 1001. -/
theorem test_decode_rsvdOpE :
    decode (.stepDesc 0xE96789A12345#48) = .rsvdOpE 0b1001#4 0x12345#20 0x6789A#20 := by decide

/-- R109, R111: OP = 15, bits 43:40 = 1001. -/
theorem test_decode_rsvdOpF :
    decode (.stepDesc 0xF96789A12345#48) = .rsvdOpF 0b1001#4 0x12345#20 0x6789A#20 := by decide

/-- R111, R112: OP = 1, bits 43:40 = 1101. -/
theorem test_decode_rsvdP1BlkB43 :
    decode (.stepDesc 0x1D6789A12345#48) = .rsvdP1BlkB43 0b101#3 0x12345#20 0x6789A#20 := by decide

/-- R111, R112: OP = 1, bits 43:40 = 0110. -/
theorem test_decode_rsvdP1BlkB42 :
    decode (.stepDesc 0x166789A12345#48) = .rsvdP1BlkB42 0b10#2 0x12345#20 0x6789A#20 := by decide

/-- R111, R112: OP = 1, bits 43:40 = 0011. -/
theorem test_decode_rsvdP1BlkB41 :
    decode (.stepDesc 0x136789A12345#48) = .rsvdP1BlkB41 0b1#1 0x12345#20 0x6789A#20 := by decide

/-- ST7. -/
theorem test_decode_rsvdP1BlkB40 :
    decode (.stepDesc 0x110000000000#48) = .rsvdP1BlkB40 0x0#20 0x0#20 := by decide

/-- R111, R112: OP = 2, bits 43:40 = 1101. -/
theorem test_decode_rsvdP2TrB43 :
    decode (.stepDesc 0x2D6789A12345#48) = .rsvdP2TrB43 0b101#3 0x12345#20 0x6789A#20 := by decide

/-- R111, R112: OP = 2, bits 43:40 = 0110. -/
theorem test_decode_rsvdP2TrB42 :
    decode (.stepDesc 0x266789A12345#48) = .rsvdP2TrB42 0b10#2 0x12345#20 0x6789A#20 := by decide

/-- R111, R112: OP = 2, bits 43:40 = 0011. -/
theorem test_decode_rsvdP2TrB41 :
    decode (.stepDesc 0x236789A12345#48) = .rsvdP2TrB41 0b1#1 0x12345#20 0x6789A#20 := by decide

/-- R111, R112: OP = 2, bits 43:40 = 0001. -/
theorem test_decode_rsvdP2TrB40 :
    decode (.stepDesc 0x216789A12345#48) = .rsvdP2TrB40 0x12345#20 0x6789A#20 := by decide

/-- R111, R112: OP = 3, bits 43:40 = 1101. -/
theorem test_decode_rsvdP2BlB43 :
    decode (.stepDesc 0x3D6789A12345#48) = .rsvdP2BlB43 0b101#3 0x12345#20 0x6789A#20 := by decide

/-- R111, R112: OP = 3, bits 43:40 = 0110. -/
theorem test_decode_rsvdP2BlB42 :
    decode (.stepDesc 0x366789A12345#48) = .rsvdP2BlB42 0b10#2 0x12345#20 0x6789A#20 := by decide

/-- R111, R112: OP = 3, bits 43:40 = 0011. -/
theorem test_decode_rsvdP2BlB41 :
    decode (.stepDesc 0x336789A12345#48) = .rsvdP2BlB41 0b1#1 0x12345#20 0x6789A#20 := by decide

/-- R111, R112: OP = 3, bits 43:40 = 0001. -/
theorem test_decode_rsvdP2BlB40 :
    decode (.stepDesc 0x316789A12345#48) = .rsvdP2BlB40 0x12345#20 0x6789A#20 := by decide

/-- ST9. -/
theorem test_decode_rsvdP3PxB43 :
    decode (.stepDesc 0x4FFFFFFFFFFF#48) = .rsvdP3PxB43 0b111#3 0xFFFFF#20 0xFFFFF#20 := by decide

/-- R111, R112: OP = 4, bits 43:40 = 0110. -/
theorem test_decode_rsvdP3PxB42 :
    decode (.stepDesc 0x466789A12345#48) = .rsvdP3PxB42 0b10#2 0x12345#20 0x6789A#20 := by decide

/-- R111, R112: OP = 4, bits 43:40 = 0011. -/
theorem test_decode_rsvdP3PxB41 :
    decode (.stepDesc 0x436789A12345#48) = .rsvdP3PxB41 0b1#1 0x12345#20 0x6789A#20 := by decide

/-- R111, R112: OP = 4, bits 43:40 = 0001. -/
theorem test_decode_rsvdP3PxB40 :
    decode (.stepDesc 0x416789A12345#48) = .rsvdP3PxB40 0x12345#20 0x6789A#20 := by decide

/-- R100: only 64 and 48 bits. -/
theorem test_decode_other_lengths_rejected :
    decodeTableWord 32 0 = none ∧ decodeTableWord 56 0 = none ∧ decodeTableWord 0 0 = none := by decide

/-! ## Single steps -/

/-- HV1, HV2, R48. -/
theorem test_reset :
    State.reset.statusWord = 0#32 ∧ State.reset.ctrlWord = 0#32 ∧ State.reset.irq = false ∧ State.reset.phase = .idle := by decide

/-- HV1, R291 (STATUS in pass 2), PR4 row 8, TX11. -/
theorem test_regRd_values :
    nextIs (exec (.regRd 1#28) State.reset) (fun t => decide (t.rdata = some 0#32)) = true ∧
    nextIs (exec (.regRd 1#28) (tRun .p2 0 0 .tr [])) (fun t => decide (t.rdata = some 0x21#32)) = true ∧
    nextIs (exec (.regRd 5#28) (tDiag [])) (fun t => decide (t.rdata = some 0x10#32)) = true ∧
    nextIs (exec (.regRd 0xFFFFFFF#28) (tDiag [])) (fun t => decide (t.rdata = some 0#32)) = true := by decide

/-- PR3 row 8: ERRCODE in bits 11:8, ERR in bit 2. -/
theorem test_regRd_error_status :
    nextIs (exec (.regRd 1#28) (State.raisePrecondition (tDiag []) 3#4)) (fun t => decide (t.rdata = some 0x304#32)) = true := by decide

/-- XV2, XV3, XV5, XV6 with `start.irq`, XV7, XV8. -/
theorem test_regWr_start :
    nextIs (exec (.regWr 0#28 1#32) (tIdle 0 5 16 [] [])) (fun t => decide (t.statusWord = 0x104#32)) = true ∧
    nextIs (exec (.regWr 0#28 1#32) (tIdle 1 0 16 [] [])) (fun t => decide (t.statusWord = 0x204#32)) = true ∧
    nextIs (exec (.regWr 0#28 1#32) (State.writeSrcLen (tIdle 3 3 4 [] []) 8#32)) (fun t => decide (t.statusWord = 0x304#32)) = true ∧
    nextIs (exec (.regWr 0#28 3#32) (tIdle 5 4 16 [] [])) (fun t => decide (t.statusWord = 0x404#32) && t.irq) = true ∧
    nextIs (exec (.regWr 0#28 1#32) (tIdle 4 4 16 [] [])) (fun t => decide (t.statusWord = 0x11#32) && !t.irq) = true ∧
    nextIs (exec (.regWr 0#28 1#32) (tIdle 65535 65535 67108864 [] [])) (fun t => decide (t.statusWord = 0x404#32)) = true := by decide

/-- HV4, HV9, HV11, HV17, R301 (`ack` after a run). -/
theorem test_regWr_registers :
    nextIs (exec (.regWr 2#28 0x12345#32) (tDiag [])) (fun t => decide (t.width = 0x2345#16)) = true ∧
    nextIs (exec (.regWr 4#28 7#32) (tRun .p1 0 0 .tr [])) (fun t => decide (t.srcLen = 4#32)) = true ∧
    nextIs (exec (.regWr 0#28 1#32) (State.writeCtrl (tRun .p1 0 0 .tr []) 2#32)) (fun t => !t.irqEn && decide (t.statusWord = 0x11#32)) = true ∧
    nextIs (exec (.regWr 1#28 4#32) (State.complete (tDiag []))) (fun t => decide (t.statusWord = 2#32)) = true ∧
    nextIs (exec (.regWr 1#28 6#32) (State.complete (State.writeCtrl (tDiag []) 2#32))) (fun t => decide (t.statusWord = 0#32) && !t.irq) = true := by decide

/-- TX6, TX13. -/
theorem test_srcRd :
    nextIs (exec (.srcRd 1#28) (tDiag [])) (fun t => decide (t.rdata = some 0xFF0000FF#32)) = true ∧
    nextIs (exec (.srcRd 16#28) (tDiag [])) (fun t => decide (t.rdata = some 0#32)) = true := by decide

/-- TX5, HV10. -/
theorem test_srcWr :
    nextIs (exec (.srcWr 1#28 0xFFFFFFFF#32) (tIdle 2 1 16 [(0, 0xFF000000#32)] []))
    (fun t => decide (t.src = [(0, 0xFF000000#32), (1, 0xFFFFFFFF#32)]) && decide (t.rdata = none)) = true ∧
    nextIs (exec (.srcWr 0#28 0x12345678#32) (tRun .p1 0 0 .tr [])) (fun t => decide (t.src = tDiagSrc)) = true := by decide

/-- TX7 on the DST of 1.5, TX14. -/
theorem test_dstRd :
    nextIs (exec (.dstRd 3#28) (tDiag tDiagPass1)) (fun t => decide (t.rdata = some 0xFF0000FF#32)) = true ∧
    nextIs (exec (.dstRd 0x40#28) (tDiag tDiagPass1)) (fun t => decide (t.rdata = some 0#32)) = true := by decide

/-- TX8. -/
theorem test_dstWr :
    nextIs (exec (.dstWr 0#28 0x12345678#32) (tDiag tDiagPass1)) (fun t => decide (t.dst = tDiagPass1) && decide (t.rdata = none)) = true := by decide

/-- TX9, R297. -/
theorem test_reserved_space_reads :
    nextIs (exec (.rsvdSpaceRd3 1#28) (tDiag tDiagPass1)) (fun t => decide (t.rdata = some 0#32)) = true ∧
    nextIs (exec (.rsvdSpaceRd4 1#28) (tDiag tDiagPass1)) (fun t => decide (t.rdata = some 0#32)) = true ∧
    nextIs (exec (.rsvdSpaceRd5 1#28) (tDiag tDiagPass1)) (fun t => decide (t.rdata = some 0#32)) = true ∧
    nextIs (exec (.rsvdSpaceRd6 1#28) (tDiag tDiagPass1)) (fun t => decide (t.rdata = some 0#32)) = true ∧
    nextIs (exec (.rsvdSpaceRd7 1#28) (tDiag tDiagPass1)) (fun t => decide (t.rdata = some 0#32)) = true := by decide

/-- TX10, R297. -/
theorem test_reserved_space_writes :
    nextIs (exec (.rsvdSpaceWr3 1#28 9#32) (tDiag tDiagPass1)) (fun t => decide (t.src = tDiagSrc) && decide (t.dst = tDiagPass1)) = true ∧
    nextIs (exec (.rsvdSpaceWr4 1#28 9#32) (tDiag tDiagPass1)) (fun t => decide (t.src = tDiagSrc) && decide (t.dst = tDiagPass1)) = true ∧
    nextIs (exec (.rsvdSpaceWr5 1#28 9#32) (tDiag tDiagPass1)) (fun t => decide (t.src = tDiagSrc) && decide (t.dst = tDiagPass1)) = true ∧
    nextIs (exec (.rsvdSpaceWr6 1#28 9#32) (tDiag tDiagPass1)) (fun t => decide (t.src = tDiagSrc) && decide (t.dst = tDiagPass1)) = true ∧
    nextIs (exec (.rsvdSpaceWr7 1#28 9#32) (tDiag tDiagPass1)) (fun t => decide (t.src = tDiagSrc) && decide (t.dst = tDiagPass1)) = true := by decide

/-- SV1: BR is 0xFF808080, which needs left-to-right sums (EV15). -/
theorem test_p1Blk_first_block :
    nextIs (step (tRun .p1 0 0 .tr [])) (fun t =>
    decide (tDst t [0, 1, 4, 5] = [some 0xFF000000#32, some 0xFF000000#32, some 0xFF000000#32, some 0xFF808080#32]) &&
    decide (t.sp = ⟨2#20, 0#20, .tr⟩)) = true := by decide +kernel

/-- SV2. -/
theorem test_p1Blk_second_block :
    nextIs (exec (.p1Blk 2#20 0#20) (tDiag [])) (fun t =>
    decide (t.dst = [(2, 0xFF0000FF#32), (3, 0xFF0000FF#32), (6, 0xFF0000FF#32), (7, 0xFFA180FF#32)])) = true := by decide +kernel

/-- SV3. -/
theorem test_p2Tr_first_block :
    nextIs (step (tRun .p2 0 0 .tr tDiagPass1)) (fun t => decide (tDst t [1] = [some 0xFF000080#32]) &&
    decide (t.sp = ⟨0#20, 0#20, .bl⟩)) = true := by decide +kernel

/-- SV4: the gather reads the DST[1] of SV3. -/
theorem test_p2Bl_first_block :
    nextIs (step (tRun .p2 0 0 .bl (Memory.set tDiagPass1 1 0xFF000080#32))) (fun t => decide (tDst t [4] = [some 0xFF3B402A#32]) &&
    decide (t.sp = ⟨2#20, 0#20, .tr⟩)) = true := by decide +kernel

/-- SV5. -/
theorem test_p3Px_first_pixel :
    nextIs (step (tRun .p3 3 3 .tr tDiagPass2)) (fun t => decide (tDst t [15] = [some 0xFFFFFFFF#32]) &&
    decide (t.sp = ⟨2#20, 3#20, .tr⟩)) = true := by decide +kernel

/-- SV6: SV5 left DST as it was. -/
theorem test_p3Px_second_pixel :
    nextIs (exec (.p3Px 2#20 3#20) (tDiag tDiagPass2)) (fun t => decide (tDst t [14] = [some 0xFFB6FFAD#32])) = true := by decide +kernel

/-- HV22, SV10. -/
theorem test_completion :
    nextIs (step (tLast true)) (fun t => decide (t.statusWord = 2#32) && t.irq && decide (tDst t [0] = [some 0x80FF4010#32])) = true := by decide +kernel

/-- R270, R291: STATUS in passes 2 and 3; pass 3 starts at (3, 3). -/
theorem test_pass_change :
    (tRun .p1 2 2 .tr []).advance.statusWord = 0x21#32 ∧ (tRun .p2 2 2 .bl []).advance.statusWord = 0x31#32 ∧
    (tRun .p2 2 2 .bl []).advance.sp = ⟨3#20, 3#20, .tr⟩ := by decide

/-- R350, R351. -/
theorem test_reset_turn :
    nextIs (step { tRun .p2 0 0 .tr tDiagPass1 with inputs := [.reset] }) (fun t => decide (t.statusWord = 0#32) && decide (t.width = 0#16) &&
    decide (t.dst = []) && decide (t.capacity = 16)) = true := by decide

/-- ST5, ST6 and the other reserved OPs (R111). -/
theorem test_reserved_ops_refused :
    refusedIs (step ((tDiag []).withFetchWord 48 0x000000000000)) .reservedStep = true ∧
    refusedIs (step ((tDiag []).withFetchWord 48 0x500000000000)) .reservedStep = true ∧
    refusedIs (step ((tDiag []).withFetchWord 48 0x600000000000)) .reservedStep = true ∧
    refusedIs (step ((tDiag []).withFetchWord 48 0x700000000000)) .reservedStep = true ∧
    refusedIs (step ((tDiag []).withFetchWord 48 0x800000000000)) .reservedStep = true ∧
    refusedIs (step ((tDiag []).withFetchWord 48 0x900000000000)) .reservedStep = true ∧
    refusedIs (step ((tDiag []).withFetchWord 48 0xA00000000000)) .reservedStep = true ∧
    refusedIs (step ((tDiag []).withFetchWord 48 0xB00000000000)) .reservedStep = true ∧
    refusedIs (step ((tDiag []).withFetchWord 48 0xC00000000000)) .reservedStep = true ∧
    refusedIs (step ((tDiag []).withFetchWord 48 0xD00000000000)) .reservedStep = true ∧
    refusedIs (step ((tDiag []).withFetchWord 48 0xE00000000000)) .reservedStep = true ∧
    refusedIs (step ((tDiag []).withFetchWord 48 0xF00000000000)) .reservedStep = true := by decide

/-- ST7 and the other reserved bits (R111). -/
theorem test_reserved_bits_refused :
    refusedIs (step ((tDiag []).withFetchWord 48 0x110000000000)) .reservedStep = true ∧
    refusedIs (step ((tDiag []).withFetchWord 48 0x120000000000)) .reservedStep = true ∧
    refusedIs (step ((tDiag []).withFetchWord 48 0x140000000000)) .reservedStep = true ∧
    refusedIs (step ((tDiag []).withFetchWord 48 0x180000000000)) .reservedStep = true ∧
    refusedIs (step ((tDiag []).withFetchWord 48 0x210000000000)) .reservedStep = true ∧
    refusedIs (step ((tDiag []).withFetchWord 48 0x220000000000)) .reservedStep = true ∧
    refusedIs (step ((tDiag []).withFetchWord 48 0x240000000000)) .reservedStep = true ∧
    refusedIs (step ((tDiag []).withFetchWord 48 0x280000000000)) .reservedStep = true ∧
    refusedIs (step ((tDiag []).withFetchWord 48 0x310000000000)) .reservedStep = true ∧
    refusedIs (step ((tDiag []).withFetchWord 48 0x320000000000)) .reservedStep = true ∧
    refusedIs (step ((tDiag []).withFetchWord 48 0x340000000000)) .reservedStep = true ∧
    refusedIs (step ((tDiag []).withFetchWord 48 0x380000000000)) .reservedStep = true ∧
    refusedIs (step ((tDiag []).withFetchWord 48 0x410000000000)) .reservedStep = true ∧
    refusedIs (step ((tDiag []).withFetchWord 48 0x420000000000)) .reservedStep = true ∧
    refusedIs (step ((tDiag []).withFetchWord 48 0x440000000000)) .reservedStep = true ∧
    refusedIs (step ((tDiag []).withFetchWord 48 0x480000000000)) .reservedStep = true := by decide

/-- ST8, R111 on a 2x2 source. -/
theorem test_ill_formed_refused :
    refusedIs (step ((tDiag []).withFetchWord 48 0x100000000001)) .illFormedStep = true ∧
    refusedIs (exec (.p3Px 4#20 0#20) (tDiag [])) .illFormedStep = true ∧ refusedIs (exec (.p2Bl 0#20 4#20) (tDiag [])) .illFormedStep = true := by decide

/-! ## The datapath -/

/-- PV8, PV7. -/
theorem test_luma_order :
    (luma 0xD8 0x64 0x41).toBits ≠ (((F64.ofBits cR).mul (F64.ofInt 0xD8)).add (((F64.ofBits cG).mul (F64.ofInt 0x64)).add
    ((F64.ofBits cB).mul (F64.ofInt 0x41)))).toBits ∧ (luma 255 255 255).toBits = 0x406FDFFFFFFFFFFF#64 := by decide +kernel

/-- PV9. -/
theorem test_ceil :
    (F64.ofBits 0x405FDFFFFFFFFFFF#64).ceil = 128 ∧ (F64.ofBits 0x403B000000000001#64).ceil = 28 ∧ (F64.ofInt 27).ceil = 27 ∧
    (F64.ofBits 0xBFE0000000000000#64).ceil = 0 := by decide +kernel

/-- EV7, EV9. -/
theorem test_edge_ties :
    edgeSel wpFull (fun i j => F64.ofInt (if i = 1 ∧ j = 1 then 1 else 0)) = true ∧
    edgeSel wpP2 (fun i j => F64.ofInt (if i = 1 ∧ j = 1 then 1 else 0)) = false ∧
    edgeSel wpP2 (fun i j => F64.ofInt (if i = 1 ∧ j = 2 then 1 else 0)) = true := by decide +kernel

/-- EV3, EV4. -/
theorem test_edge_directions :
    dEdge wpFull (fun i j => F64.ofInt (if 3 ≤ i.val + j.val then 100 else 0)) = F64.ofInt (-600) ∧
    dEdge wpFull (fun i j => F64.ofInt (if i ≤ j then 100 else 0)) = F64.ofInt 600 ∧
    dEdge wpP2 (fun i j => F64.ofInt (if i ≤ j then 100 else 0)) = F64.ofInt 400 := by decide +kernel

/-- BV9, BV10. -/
theorem test_blend_unfused :
    interpChannel true wab12 (fun i j => if (i = 0 ∧ j = 3) ∨ (i = 3 ∧ j = 0) then 27 else if i = 2 ∧ (j = 1 ∨ j = 2) then 54 else 0) = 28 ∧
    interpChannel false wab34 (fun i j => if (i = 0 ∧ j = 0) ∨ (i = 3 ∧ j = 3) then 7 else if i = 2 ∧ (j = 1 ∨ j = 2) then 14 else 0) = 8 := by decide +kernel

/-- BV5, BV7. -/
theorem test_blend_clamped :
    interpChannel true wab12 (fun i j => if (i = 1 ∧ j = 2) ∨ (i = 2 ∧ (j = 1 ∨ j = 2)) then 200 else if i = 1 ∧ j = 1 then 100 else 0) = 200 ∧
    interpChannel false wab12 (fun i j => if i = 0 ∧ j = 0 then 10 else if i = 3 ∧ j = 3 then 20 else if i = 1 ∧ j = 1 then 100 else
    if i = 2 ∧ j = 2 then 50 else 0) = 91 := by decide +kernel

/-- GT3, GT4, GT1, GT8, GT9. -/
theorem test_gather_cells :
    (gatherCell .p2a 4 4 0 0 0 3 = (1, 0) ∧ gatherCell .p2a 4 4 0 0 1 3 = (2, 0) ∧ gatherCell .p2a 4 4 0 0 3 0 = (1, 3) ∧
    gatherCell .p2a 4 4 0 0 2 1 = (1, 1)) ∧
    (gatherCell .p2b 4 4 0 0 2 0 = (0, 3) ∧ gatherCell .p2b 4 4 0 0 1 3 = (1, 0) ∧ gatherCell .p2b 4 4 0 0 3 2 = (2, 2)) ∧
    (gatherCell .p1 2 2 0 0 0 2 = (0, 1) ∧ gatherCell .p1 2 2 0 0 2 0 = (1, 0)) ∧
    (gatherCell .p3 4 4 3 3 0 2 = (1, 3) ∧ gatherCell .p3 4 4 2 1 3 2 = (3, 1)) := by decide

/-- 95_test_vectors.md 1.9, QV3. -/
theorem test_pixel :
    channelOf .r 0xFF804020#32 = 0x20 ∧ channelOf .b 0xFF804020#32 = 0x80 ∧ pack 255 0 161 255 = 0xFFA100FF#32 := by decide

/-! ## Witnesses: the hypotheses of each statement, met together -/

/-- A run in progress meets the invariant, in each pass. -/
theorem run_inv_p1 : (tRun .p1 0 0 .tr []).Inv :=
  ⟨by decide, by decide, ⟨by decide, by decide, by decide, by decide, by decide⟩, ⟨by decide, by decide, by decide, by decide⟩,
   ⟨by decide, by decide, by decide, by decide⟩⟩

theorem run_inv_p2_tr : (tRun .p2 2 2 .tr tDiagPass1).Inv :=
  ⟨by decide, by decide, ⟨by decide, by decide, by decide, by decide, by decide⟩, ⟨by decide, by decide, by decide, by decide⟩,
   ⟨by decide, by decide, by decide, by decide⟩⟩

theorem run_inv_p2_bl : (tRun .p2 2 2 .bl tDiagPass1).Inv :=
  ⟨by decide, by decide, ⟨by decide, by decide, by decide, by decide, by decide⟩, ⟨by decide, by decide, by decide, by decide⟩,
   ⟨by decide, by decide, by decide, by decide⟩⟩

theorem run_inv_p3 : (tRun .p3 3 3 .tr tDiagPass2).Inv :=
  ⟨by decide, by decide, ⟨by decide, by decide, by decide, by decide, by decide⟩, ⟨by decide, by decide, by decide, by decide⟩,
   ⟨by decide, by decide, by decide, by decide⟩⟩

theorem last_inv : (tLast true).Inv :=
  ⟨by decide, by decide, ⟨by decide, by decide, by decide, by decide, by decide⟩, ⟨by decide, by decide, by decide, by decide⟩,
   ⟨by decide, by decide, by decide, by decide⟩⟩

theorem idle_inv : (tDiag []).Inv :=
  ⟨by decide, by decide, ⟨by decide, by decide, by decide, by decide, by decide⟩, ⟨by decide, by decide, by decide, by decide⟩,
   ⟨by decide, by decide, by decide, by decide⟩⟩

theorem witness_EncodeInvertsDecode :
    (0x8000000000000000#64).getLsbD 63 = true ∧ (0xFFFFFFFFFFFFFFFF#64).getLsbD 63 = true ∧ (0x7FFFFFFFFFFFFFFF#64).getLsbD 63 = false := by decide

theorem witness_StepRunsDecodedOperation :
    { tDiag [] with inputs := [.host 1#64, .core] }.inputs = Input.host 1#64 :: [.core] ∧
    { tDiag [] with inputs := [.desc 1#48] }.inputs = Input.desc 1#48 :: [] ∧
    ({ tRun .p1 0 0 .tr [] with inputs := [.core, .reset] }.inputs = Input.core :: [.reset] ∧
    { tRun .p1 0 0 .tr [] with inputs := [.core, .reset] }.issue = some (.p1Blk 0#20 0#20)) ∧
    ((tRun .p3 3 3 .tr []).inputs = [] ∧ (tRun .p3 3 3 .tr []).issue = some (.p3Px 3#20 3#20)) ∧
    ((tDiag []).inputs = [] ∧ (tDiag []).issue = none) := by refine ⟨rfl, rfl, ⟨rfl, rfl⟩, ⟨rfl, rfl⟩, ⟨rfl, rfl⟩⟩

theorem witness_WithFetchWordRunsTheWord :
    (decode (.stepDesc 0x100000000001#48)).wf = false ∧ (decode (.stepDesc 0x41FFFFFFFFFF#48)).wf = false := by decide

theorem witness_WithFetchWordIssuesTheStepOperation :
    (decode (.stepDesc 0x10000001FFFC#48)).wf = true ∧ (decode (.stepDesc 0x200000000000#48)).wf = true ∧
    (decode (.stepDesc 0x31FFFC000000#48)).wf = false ∧ (decode (.stepDesc 0x301FFFC00000#48)).wf = true ∧
    (decode (.stepDesc 0x401FFFD1FFFD#48)).wf = true := by decide

theorem witness_RegRdReturnsTheRegisterWord :
    ((0#28).toNat = 0 ∧ (1#28).toNat = 1 ∧ (2#28).toNat = 2 ∧ (3#28).toNat = 3 ∧ (4#28).toNat = 4 ∧ (5#28).toNat = 5 ∧
    6 ≤ (6#28).toNat ∧ 6 ≤ (0xFFFFFFF#28).toNat) ∧
    ((tRun .p1 0 0 .tr []).RegistersOk ∧ (tRun .p1 0 0 .tr []).phase = .p1) ∧
    ((tRun .p2 2 2 .tr tDiagPass1).RegistersOk ∧ (tRun .p2 2 2 .tr tDiagPass1).phase = .p2) ∧
    ((tRun .p3 3 3 .tr tDiagPass2).RegistersOk ∧ (tRun .p3 3 3 .tr tDiagPass2).phase = .p3) := by exact ⟨by decide, ⟨run_inv_p1.registers, rfl⟩, ⟨run_inv_p2_tr.registers, rfl⟩, ⟨run_inv_p3.registers, rfl⟩⟩

theorem witness_RegWrFollowsItsRule :
    ((0#28).toNat = 0 ∧ (2#32).getLsbD 0 = false ∧ (3#32).getLsbD 0 = true ∧ (1#28).toNat = 1) ∧
    ((2#28).toNat = 2 ∧ (3#28).toNat = 3 ∧ (4#28).toNat = 4 ∧ (tDiag []).busy = false) ∧
    (2 ≤ (2#28).toNat ∧ (4#28).toNat ≤ 4 ∧ (tRun .p1 0 0 .tr []).busy = true) ∧ 5 ≤ (5#28).toNat ∧ 5 ≤ (0xFFFFFFF#28).toNat := by decide

theorem witness_StartIgnoredRefusedOrAccepted :
    (1#32).getLsbD 0 = true ∧ (tRun .p3 0 0 .tr []).busy = true ∧
    ((tIdle 0 5 16 [] []).busy = false ∧ (tIdle 0 5 16 [] []).width.toNat = 0) ∧
    ((tIdle 1 0 16 [] []).busy = false ∧ (tIdle 1 0 16 [] []).width.toNat ≠ 0 ∧ (tIdle 1 0 16 [] []).height.toNat = 0) ∧
    ((State.writeSrcLen (tIdle 2 2 16 [] []) 5#32).busy = false ∧ (State.writeSrcLen (tIdle 2 2 16 [] []) 5#32).width.toNat ≠ 0 ∧
    (State.writeSrcLen (tIdle 2 2 16 [] []) 5#32).height.toNat ≠ 0 ∧ (State.writeSrcLen (tIdle 2 2 16 [] []) 5#32).srcLen.toNat ≠
    (State.writeSrcLen (tIdle 2 2 16 [] []) 5#32).width.toNat * (State.writeSrcLen (tIdle 2 2 16 [] []) 5#32).height.toNat) ∧
    ((tIdle 5 4 19 [] []).busy = false ∧ (tIdle 5 4 19 [] []).width.toNat ≠ 0 ∧ (tIdle 5 4 19 [] []).height.toNat ≠ 0 ∧
    (tIdle 5 4 19 [] []).srcLen.toNat = (tIdle 5 4 19 [] []).width.toNat * (tIdle 5 4 19 [] []).height.toNat ∧
    (tIdle 5 4 19 [] []).capacity < (tIdle 5 4 19 [] []).width.toNat * (tIdle 5 4 19 [] []).height.toNat) ∧
    ((tIdle 5 4 20 [] []).busy = false ∧ (tIdle 5 4 20 [] []).width.toNat ≠ 0 ∧ (tIdle 5 4 20 [] []).height.toNat ≠ 0 ∧
    (tIdle 5 4 20 [] []).srcLen.toNat = (tIdle 5 4 20 [] []).width.toNat * (tIdle 5 4 20 [] []).height.toNat ∧
    (tIdle 5 4 20 [] []).width.toNat * (tIdle 5 4 20 [] []).height.toNat ≤ (tIdle 5 4 20 [] []).capacity) := by decide

theorem witness_StatusWriteOneToClear :
    ((2#32).getLsbD 1 = true ∧ (State.complete (tDiag [])).err = false) ∧
    ((4#32).getLsbD 2 = true ∧ (State.raisePrecondition (tDiag []) 3#4).done = false) ∧
    ((tRun .p1 0 0 .tr []).RegistersOk ∧ (tRun .p1 0 0 .tr []).busy = true) ∧ (tDiag []).busy = false := by exact ⟨by decide, by decide, ⟨run_inv_p1.registers, rfl⟩, rfl⟩

theorem witness_IrqEnTakesEffectAtOnce :
    (2#32).getLsbD 0 = false ∧ (0xFFFFFFFE#32).getLsbD 0 = false := by decide

theorem witness_ReservedRegisterBitsAndOffsets :
    (0#28).toNat = 0 ∧ (1#28).toNat = 1 ∧ (2#28).toNat = 2 ∧ (3#28).toNat = 3 ∧ 6 ≤ (6#28).toNat ∧ 6 ≤ (0xFFFFFFF#28).toNat := by decide

theorem witness_CapacityIsReadOnlyAndConstant :
    step (tDiag []) = .next (tDiag []) := by rfl

theorem witness_SrcRdReturnsTheWord :
    (15#28).toNat < (tDiag []).capacity ∧ (tDiag []).capacity ≤ (16#28).toNat := by decide

theorem witness_SrcWrWritesOneWordWhileIdle :
    ((tDiag []).busy = false ∧ (15#28).toNat < (tDiag []).capacity) ∧ (tRun .p3 0 0 .tr []).busy = true ∧
    (tDiag []).capacity ≤ (16#28).toNat := by decide

theorem witness_DstRdReturnsTheWordWhileIdle :
    4 * (tDiag []).capacity ≤ (64#28).toNat ∧
    ((63#28).toNat < 4 * (tRun .p1 0 0 .tr []).capacity ∧ (tRun .p1 0 0 .tr []).busy = true) ∧
    ((63#28).toNat < 4 * (tDiag []).capacity ∧ (tDiag []).busy = false) := by decide

theorem witness_EveryHostTransactionCompletes :
    (0x2000000000000000#64).getLsbD 63 = false ∧ (0xA000000000000000#64).getLsbD 63 = true := by decide

theorem witness_HostReadsHaveNoSideEffect :
    (0x2000000000000000#64).getLsbD 63 = false ∧ exec (decode (.hostTx 0x2000000000000000#64)) (tRun .p1 0 0 .tr []) =
    .next { tRun .p1 0 0 .tr [] with rdata := some (Config.busyDstRead 0), draws := 1 } := by exact ⟨rfl, rfl⟩

theorem witness_OutOfRangeOffsetsAreHarmless :
    ((tDiag []).capacity ≤ (16#28).toNat ∧ 4 * (tDiag []).capacity ≤ (64#28).toNat) ∧
    ((tRun .p1 0 0 .tr []).Inv ∧ (tRun .p1 0 0 .tr []).issue = some (.p1Blk 0#20 0#20)) ∧
    ((tRun .p2 2 2 .tr tDiagPass1).Inv ∧ (tRun .p2 2 2 .tr tDiagPass1).issue = some (.p2Tr 2#20 2#20)) ∧
    ((tRun .p2 2 2 .bl tDiagPass1).Inv ∧ (tRun .p2 2 2 .bl tDiagPass1).issue = some (.p2Bl 2#20 2#20)) ∧
    ((tRun .p3 3 3 .tr tDiagPass2).Inv ∧ (tRun .p3 3 3 .tr tDiagPass2).issue = some (.p3Px 3#20 3#20)) := by exact ⟨by decide, ⟨run_inv_p1, rfl⟩, ⟨run_inv_p2_tr, rfl⟩, ⟨run_inv_p2_bl, rfl⟩, ⟨run_inv_p3, rfl⟩⟩

theorem witness_P1BlkWritesItsBlock :
    ((tIdle 2 2 4 [] []).blockOk 2#20 2#20 = true ∧ (tIdle 2 2 4 [] []).width.toNat * (tIdle 2 2 4 [] []).height.toNat ≤ (tIdle 2 2 4 [] []).capacity) ∧
    ((tIdle 1 1 1 [] []).blockOk 0#20 0#20 = true ∧ (tIdle 1 1 1 [] []).width.toNat * (tIdle 1 1 1 [] []).height.toNat ≤ (tIdle 1 1 1 [] []).capacity ∧
    (tIdle 1 1 1 [] []).width.toNat = 1 ∧ (tIdle 1 1 1 [] []).height.toNat = 1) ∧
    (7 ≠ (2#20).toNat * (2 * (tIdle 2 2 4 [] []).width.toNat) + (2#20).toNat) := by decide

theorem witness_P2TrWritesItsCell :
    (tIdle 2 2 4 [] tDiagPass1).blockOk 2#20 2#20 = true ∧
    (tIdle 2 2 4 [] tDiagPass1).width.toNat * (tIdle 2 2 4 [] tDiagPass1).height.toNat ≤ (tIdle 2 2 4 [] tDiagPass1).capacity := by decide

theorem witness_P2BlWritesItsCell :
    (tIdle 2 2 4 [] tDiagPass1).blockOk 2#20 2#20 = true ∧
    (tIdle 2 2 4 [] tDiagPass1).width.toNat * (tIdle 2 2 4 [] tDiagPass1).height.toNat ≤ (tIdle 2 2 4 [] tDiagPass1).capacity := by decide

theorem witness_P3PxRewritesItsPixel :
    ((tIdle 2 2 4 [] tDiagPass2).pixelOk 3#20 3#20 = true ∧ (tIdle 2 2 4 [] tDiagPass2).pixelOk 0#20 0#20 = true ∧
    (tIdle 2 2 4 [] tDiagPass2).width.toNat * (tIdle 2 2 4 [] tDiagPass2).height.toNat ≤ (tIdle 2 2 4 [] tDiagPass2).capacity) ∧
    (∀ c, ((tIdle 2 2 4 [] tDiagPass2).gather .p3 0 0).ch c 1 1 = ((tIdle 2 2 4 [] tDiagPass2).gather .p3 0 0).ch c 2 2 ∧
    ((tIdle 2 2 4 [] tDiagPass2).gather .p3 0 0).ch c 2 1 = ((tIdle 2 2 4 [] tDiagPass2).gather .p3 0 0).ch c 2 2 ∧
    ((tIdle 2 2 4 [] tDiagPass2).gather .p3 0 0).ch c 1 2 = ((tIdle 2 2 4 [] tDiagPass2).gather .p3 0 0).ch c 2 2) := by exact ⟨by decide, fun c => by cases c <;> decide⟩

theorem witness_ReservedAndIllFormedDescriptorsRefused :
    ((1#20).toNat % 2 = 1 ∧ 2 * (tDiag []).width.toNat ≤ (4#20).toNat ∧ 2 * (tDiag []).height.toNat ≤ (4#20).toNat) ∧
    ((tRun .p1 0 0 .tr []).Inv ∧ (tRun .p1 0 0 .tr []).issue = some (.p1Blk 0#20 0#20)) ∧
    ((tRun .p3 3 3 .tr tDiagPass2).Inv ∧ (tRun .p3 3 3 .tr tDiagPass2).issue = some (.p3Px 3#20 3#20)) := by exact ⟨by decide, ⟨run_inv_p1, rfl⟩, ⟨run_inv_p3, rfl⟩⟩

theorem witness_StepBeyondMemoryFaults :
    ((tIdle 2 2 3 [] []).blockOk 2#20 2#20 = true ∧ (tIdle 2 2 3 [] []).pixelOk 0#20 3#20 = true) ∧
    ((tIdle 2 2 3 [] []).gatherInRange .p1 2 2 = false ∧ (tIdle 2 2 3 [] []).gatherInRange .p2a 2 2 = false ∧
    (tIdle 2 2 3 [] []).gatherInRange .p2b 2 2 = false ∧ (tIdle 2 2 3 [] []).gatherInRange .p3 0 3 = false) ∧
    4 * (tIdle 2 2 3 [] []).capacity ≤ ((2#20).toNat + 1) * (2 * (tIdle 2 2 3 [] []).width.toNat) + (2#20).toNat ∧
    4 * (tIdle 2 2 3 [] []).capacity ≤ (3#20).toNat * (2 * (tIdle 2 2 3 [] []).width.toNat) + (0#20).toNat := by decide

theorem witness_StepBeyondMemoryFaultsUpperRow :
    (tIdle 2 2 2 [] []).blockOk 0#20 2#20 = true ∧
    4 * (tIdle 2 2 2 [] []).capacity ≤ (2#20).toNat * (2 * (tIdle 2 2 2 [] []).width.toNat) + (0#20).toNat := by decide

theorem witness_CoordinateClampCorners :
    1 ≤ 4 ∧ (-3 : Int) < 0 ∧ ((4 : Nat) : Int) - 1 < 4 ∧ (0 : Int) ≤ 3 ∧ (3 : Int) ≤ ((4 : Nat) : Int) - 1 ∧ 1 ≤ 1 := by decide

theorem witness_GatherIndicesStayInsideTheBuffer :
    1 ≤ (tIdle 1 1 1 [] []).width.toNat ∧ 1 ≤ (tIdle 1 1 1 [] []).height.toNat := by decide

theorem witness_InteriorPass2ReadsNoPass2Cell :
    4 % 2 = 0 ∧ 4 % 2 = 0 ∧ 4 ≤ 4 ∧ 4 + 6 ≤ 10 ∧ 4 ≤ 4 ∧ 4 + 6 ≤ 10 := by decide

theorem witness_RoundingIsToNearestEven :
    (⟨2 ^ 53⟩ : F64).representable = true ∧ (⟨2 ^ 53 + 2⟩ : F64).representable = true ∧ F64.round (2 ^ 53 + 1) 0 = ⟨2 ^ 53⟩ ∧
    ((2 ^ 53 + 1 : Int) - (F64.round (2 ^ 53 + 1) 0).units * 2 ^ 0).natAbs = ((2 ^ 53 + 1 : Int) - (⟨2 ^ 53 + 2⟩ : F64).units * 2 ^ 0).natAbs ∧
    (⟨2 ^ 53 + 2⟩ : F64) ≠ F64.round (2 ^ 53 + 1) 0 := by decide +kernel

theorem witness_DatapathValuesStayInRange :
    (wpFull = wpFull ∨ wpFull = wpP2) ∧ (wpP2 = wpFull ∨ wpP2 = wpP2) ∧ (wab34 = wab12 ∨ wab34 = wab34) := by decide

theorem witness_SelComparesTheAccumulators :
    dw1 wpFull (fun _ j => F64.ofInt (if 2 ≤ j then 100 else 0)) = dw2 wpFull (fun _ j => F64.ofInt (if 2 ≤ j then 100 else 0)) := by decide +kernel

theorem witness_InterpolationStaysInTheLocalRange :
    (∀ i j : Fin 4, (fun _ _ => 255 : Mat4 Nat) i j ≤ 255) ∧ (fun _ _ => 255 : Mat4 Nat) 1 1 = 255 ∧ (fun _ _ => 255 : Mat4 Nat) 2 1 = 255 ∧
    (fun _ _ => 255 : Mat4 Nat) 1 2 = 255 ∧ (fun _ _ => 255 : Mat4 Nat) 2 2 = 255 := by decide

theorem witness_PixelPackingLaws :
    (255 : Nat) ≤ 255 ∧ (0 : Nat) ≤ 255 := by decide

theorem witness_OrchestratorTransitions :
    ((tRun .p1 0 0 .tr []).pointerOk = true ∧ (tRun .p1 0 0 .tr []).phase = .p1 ∧ (tRun .p1 0 0 .tr []).sp.x.toNat + 2 < 2 * (tRun .p1 0 0 .tr []).width.toNat) ∧
    ((tRun .p1 2 0 .tr []).pointerOk = true ∧ (tRun .p1 2 0 .tr []).sp.x.toNat + 2 = 2 * (tRun .p1 2 0 .tr []).width.toNat ∧
    (tRun .p1 2 0 .tr []).sp.y.toNat + 2 < 2 * (tRun .p1 2 0 .tr []).height.toNat) ∧
    ((tRun .p1 2 2 .tr []).pointerOk = true ∧ (tRun .p1 2 2 .tr []).sp.x.toNat + 2 = 2 * (tRun .p1 2 2 .tr []).width.toNat ∧
    (tRun .p1 2 2 .tr []).sp.y.toNat + 2 = 2 * (tRun .p1 2 2 .tr []).height.toNat) ∧
    ((tRun .p2 0 0 .tr []).pointerOk = true ∧ (tRun .p2 0 0 .tr []).phase = .p2 ∧ (tRun .p2 0 0 .tr []).sp.sub = .tr) ∧
    ((tRun .p2 0 0 .bl []).pointerOk = true ∧ (tRun .p2 0 0 .bl []).phase = .p2 ∧ (tRun .p2 0 0 .bl []).sp.sub = .bl ∧
    (tRun .p2 0 0 .bl []).sp.x.toNat + 2 < 2 * (tRun .p2 0 0 .bl []).width.toNat) ∧
    ((tRun .p2 2 0 .bl []).pointerOk = true ∧ (tRun .p2 2 0 .bl []).sp.x.toNat + 2 = 2 * (tRun .p2 2 0 .bl []).width.toNat ∧
    (tRun .p2 2 0 .bl []).sp.y.toNat + 2 < 2 * (tRun .p2 2 0 .bl []).height.toNat) ∧
    ((tRun .p2 2 2 .bl []).pointerOk = true ∧ (tRun .p2 2 2 .bl []).sp.x.toNat + 2 = 2 * (tRun .p2 2 2 .bl []).width.toNat ∧
    (tRun .p2 2 2 .bl []).sp.y.toNat + 2 = 2 * (tRun .p2 2 2 .bl []).height.toNat) ∧
    ((tRun .p3 3 3 .tr []).pointerOk = true ∧ (tRun .p3 3 3 .tr []).phase = .p3 ∧ 0 < (tRun .p3 3 3 .tr []).sp.x.toNat) ∧
    ((tRun .p3 0 3 .tr []).pointerOk = true ∧ (tRun .p3 0 3 .tr []).sp.x.toNat = 0 ∧ 0 < (tRun .p3 0 3 .tr []).sp.y.toNat) ∧
    ((tRun .p3 0 0 .tr []).pointerOk = true ∧ (tRun .p3 0 0 .tr []).sp.x.toNat = 0 ∧ (tRun .p3 0 0 .tr []).sp.y.toNat = 0) := by decide

theorem witness_CompletionIsOneActionWithTheLastWrite :
    (tLast true).Inv ∧ (tLast true).phase = .p3 ∧ (tLast true).sp.x = 0#20 ∧ (tLast true).sp.y = 0#20 ∧ (tLast true).inputs = [] := by exact ⟨last_inv, rfl, rfl, rfl, rfl⟩

theorem witness_RunIssuesTheLoopsInOrder :
    (tRun .p1 0 0 .tr []).AtRunStart := by exact ⟨rfl, rfl, rfl, rfl⟩

theorem witness_RunTakesSevenWHSteps :
    (tRun .p1 0 0 .tr []).AtRunStart := by exact ⟨rfl, rfl, rfl, rfl⟩

theorem witness_RunResultIgnoresPriorDst :
    (tRun .p1 0 0 .tr []).AtRunStart ∧ (tRun .p1 0 0 .tr tDiagPass1).AtRunStart ∧ (tRun .p1 0 0 .tr []).SameSource (tRun .p1 0 0 .tr tDiagPass1) := by exact ⟨⟨rfl, rfl, rfl, rfl⟩, ⟨rfl, rfl, rfl, rfl⟩, ⟨rfl, rfl, fun _ _ => rfl⟩⟩

/-- An idle machine whose SRC[0] differs from the diagonal source's in its alpha alone. -/
def tDiagAlpha : State := tIdle 2 2 16 [(0, 0x00000000#32), (1, 0xFF0000FF#32), (2, 0xFF00FF00#32), (3, 0xFFFFFFFF#32)] []

theorem witness_AlphaNeverReachesColour :
    (tDiag []).AlikeButAlpha tDiagAlpha ∧ (tDiag []).inputs = [] ∧ step (tDiag []) = .next (tDiag []) := by
  refine ⟨⟨rfl, fun k => ?_, fun _ => rfl⟩, rfl, rfl⟩
  simp only [State.srcRead, tDiag, tDiagAlpha, tIdle, tDiagSrc, Memory.get?]
  by_cases h : k = 0
  · subst h; decide
  · simp [h]

theorem witness_StepsWriteOnlyTheImage :
    isStepOperation (.p1Blk 0#20 0#20) ∧ nextIs (exec (.p1Blk 0#20 0#20) (tIdle 1 1 4 [] [])) (fun _ => true) = true ∧
    4 * ((tIdle 1 1 4 [] []).width.toNat * (tIdle 1 1 4 [] []).height.toNat) ≤ 4 := by exact ⟨⟨0#20, 0#20, .inl rfl⟩, by decide, by decide⟩

theorem witness_BusyKeepsSourceAndConfiguration :
    (tRun .p1 0 0 .tr []).busy = true ∧ exec (.regWr 2#28 7#32) (tRun .p1 0 0 .tr []) = .next (tRun .p1 0 0 .tr []) := by exact ⟨rfl, rfl⟩

theorem witness_OnlyStartLeavesIdle :
    step { tDiag [] with inputs := [.host 0x8000000000000001#64] } = .next (tRun .p1 0 0 .tr []) ∧
    { tDiag [] with inputs := [.host 0x8000000000000001#64] }.busy = false ∧ (tRun .p1 0 0 .tr []).busy = true := by exact ⟨rfl, rfl, rfl⟩

/-- The state in which a turn of HOST enables the interrupt of a completed run (HV14). -/
def tEnable : State := { State.complete (tDiag []) with inputs := [.host 0x8000000000000002#64] }

theorem witness_IrqRisesOnlyByItsSources :
    tEnable.Inv ∧ step tEnable = .next { State.complete (tDiag []) with irqEn := true } ∧ tEnable.irq = false ∧
    { State.complete (tDiag []) with irqEn := true }.irq = true := by exact
  ⟨⟨by decide, by decide, ⟨by decide, by decide, by decide, by decide, by decide⟩, ⟨by decide, by decide, by decide, by decide⟩,
    ⟨by decide, by decide, by decide, by decide⟩⟩, rfl, rfl, rfl⟩

theorem witness_IrqRisesAtARefusedStart :
    { tIdle 0 2 16 [] [] with inputs := [.host 0x8000000000000003#64] }.Inv ∧
    { tIdle 0 2 16 [] [] with inputs := [.host 0x8000000000000003#64] }.irq = false ∧
    step { tIdle 0 2 16 [] [] with inputs := [.host 0x8000000000000003#64] } = .next
    { tIdle 0 2 16 [] [] with irqEn := true, err := true, errcode := 1#4 } ∧
    { tIdle 0 2 16 [] [] with irqEn := true, err := true, errcode := 1#4 }.irq = true := by exact
  ⟨⟨by decide, by decide, ⟨by decide, by decide, by decide, by decide, by decide⟩, ⟨by decide, by decide, by decide, by decide⟩,
    ⟨by decide, by decide, by decide, by decide⟩⟩, rfl, rfl, rfl⟩

theorem witness_IrqRisesAtCompletion :
    (tLast true).Inv ∧ (tLast true).irq = false ∧ nextIs (step (tLast true)) (fun t => t.irq) = true := by exact ⟨last_inv, rfl, by decide +kernel⟩

theorem witness_IdleCoreDoesNothing :
    ((tDiag []).phase = .idle ∧ (tDiag []).inputs = []) ∧ { tDiag [] with inputs := [.core, .reset] }.phase = .idle ∧
    { tDiag [] with inputs := [.core, .reset] }.inputs = Input.core :: [.reset] := by exact ⟨⟨rfl, rfl⟩, rfl, rfl⟩

theorem witness_ResetAtAnyTimeAbandonsTheRun :
    { tRun .p2 0 0 .bl tDiagPass1 with inputs := [.reset] }.inputs = Input.reset :: [] := by rfl

theorem witness_EveryStepKeepsTheInvariant :
    (tDiag []).Inv ∧ step (tDiag []) = .next (tDiag []) ∧ (tRun .p3 3 3 .tr tDiagPass2).Inv ∧
    nextIs (step (tRun .p3 3 3 .tr tDiagPass2)) (fun _ => true) = true := by exact ⟨idle_inv, rfl, run_inv_p3, by decide +kernel⟩

theorem witness_RegisterInvariantsHold :
    (tDiag []).Inv ∧ step (tDiag []) = .next (tDiag []) := by exact ⟨idle_inv, rfl⟩

theorem witness_HardwareStepsNeverStop :
    (tRun .p2 2 2 .tr tDiagPass1).Inv ∧ (tRun .p2 2 2 .tr tDiagPass1).hardwareTurn = true ∧ (tLast true).Inv ∧ (tLast true).hardwareTurn = true := by exact ⟨run_inv_p2_tr, rfl, last_inv, rfl⟩

end Sys2Proof.Machine.Tests
end

section
/-! PROOFS. Rounding to nearest, ties to even (00_scope.md R11, 40_primitives.md R143): `roundShift` picks the nearest multiple
of `2 ^ k`, and every representable value that is not such a multiple lies below the first binade that `droppedBits` keeps. -/

namespace Sys2Proof.Machine

/-- When the shifted-out part is exactly one half, the rounding shift answers an even integer. -/
theorem roundShift_even_of_half {p k : Nat} (h : 2 * (p % 2 ^ k) = 2 ^ k) : roundShift p k % 2 = 0 := by
  simp only [roundShift, h, lt_irrefl, if_false]
  omega

/-- The rounding shift is off by at most one half, and when it is off by a whole half its answer is even. -/
theorem roundShift_distance (p k : Nat) :
    2 * ((p : Int) - roundShift p k * 2 ^ k).natAbs ≤ 2 ^ k ∧
    (2 * ((p : Int) - roundShift p k * 2 ^ k).natAbs = 2 ^ k → roundShift p k % 2 = 0) := by
  have hcast : ((roundShift p k * 2 ^ k : Nat) : Int) = roundShift p k * 2 ^ k := by push_cast; rfl
  have herr := roundShift_error p k
  rw [← hcast]
  refine ⟨by omega, fun htie => ?_⟩
  by_cases hhalf : 2 * (p % 2 ^ k) = 2 ^ k
  · exact roundShift_even_of_half hhalf
  · have hdiv := Nat.div_add_mod' p (2 ^ k)
    have hmod := Nat.mod_lt p (Nat.two_pow_pos k)
    unfold roundShift at htie
    split at htie
    · omega
    · rw [if_pos (by omega), Nat.add_mul] at htie
      omega

/-- Among the multiples of `2 ^ k` the rounding shift picks a nearest one, and an even one when another is equally near. -/
theorem roundShift_nearest (p k : Nat) (c : Int) :
    ((p : Int) - roundShift p k * 2 ^ k).natAbs ≤ ((p : Int) - c * 2 ^ k).natAbs ∧
    (((p : Int) - roundShift p k * 2 ^ k).natAbs = ((p : Int) - c * 2 ^ k).natAbs → c ≠ roundShift p k →
      roundShift p k % 2 = 0) := by
  by_cases hc : c = roundShift p k
  · simp [hc]
  · have hgap : 2 ^ k ≤ ((roundShift p k : Int) * 2 ^ k - c * 2 ^ k).natAbs := by
      rw [← sub_mul, Int.natAbs_mul, Int.natAbs_pow]
      exact Nat.le_mul_of_pos_left _ (by omega)
    obtain ⟨herr, heven⟩ := roundShift_distance p k
    exact ⟨by omega, fun htie _ => heven (by omega)⟩

theorem le_droppedBits (p s : Nat) : s ≤ droppedBits p s := Nat.le_max_left _ _

/-- The bits that `droppedBits` keeps are at most 53. -/
theorem lt_two_pow_droppedBits (p s : Nat) : p < 2 ^ 53 * 2 ^ droppedBits p s := by
  rw [← pow_add]
  refine Nat.lt_log2_self.trans_le (Nat.pow_le_pow_right (by norm_num) ?_)
  simp only [droppedBits, topBit_eq_log2]
  omega

/-- When bits beyond the units grid are dropped, 53 bits are kept. -/
theorem two_pow_droppedBits_le {p s : Nat} (h : s < droppedBits p s) : 2 ^ 52 * 2 ^ droppedBits p s ≤ p := by
  have htop : 52 + droppedBits p s = Nat.log2 p := by
    simp only [droppedBits, topBit_eq_log2] at h ⊢
    omega
  have hp : p ≠ 0 := by rintro rfl; simp at htop
  rw [← pow_add, htop]
  exact Nat.log2_self_le hp

theorem roundShift_droppedBits_le (p s : Nat) : roundShift p (droppedBits p s) ≤ 2 ^ 53 := by
  have hp := lt_two_pow_droppedBits p s
  have herr := (roundShift_error p (droppedBits p s)).2
  by_contra hlt
  have := Nat.mul_le_mul_right (2 ^ droppedBits p s) (show 2 ^ 53 + 1 ≤ roundShift p (droppedBits p s) by omega)
  omega

/-- The unit in the last place of `q * 2 ^ e` is at most `2 ^ e` when `q` has at most 53 bits. -/
theorem topBit_mul_two_pow_le {q : Nat} (e : Nat) (h : q < 2 ^ 53) : topBit (q * 2 ^ e) - 52 ≤ e := by
  rcases Nat.eq_zero_or_pos q with rfl | hq
  · simp [topBit_eq_log2]
  · have : q * 2 ^ e < 2 ^ (53 + e) := by
      rw [pow_add]
      exact Nat.mul_lt_mul_of_pos_right h (Nat.two_pow_pos e)
    rw [topBit_eq_log2]
    have := (Nat.log2_lt (by positivity)).2 this
    omega

theorem topBit_two_pow (e : Nat) : topBit (2 ^ e) = e := by
  rw [topBit_eq_log2, Nat.log2_two_pow]

/-- A multiple of `2 ^ e` by at most `2 ^ 53` has at most 53 significant bits, and its significand is even when the factor is. -/
theorem significand_mul_two_pow {q : Nat} (e : Nat) (h : q ≤ 2 ^ 53) :
    q * 2 ^ e % 2 ^ (topBit (q * 2 ^ e) - 52) = 0 ∧
    (q % 2 = 0 → q * 2 ^ e / 2 ^ (topBit (q * 2 ^ e) - 52) % 2 = 0) := by
  rcases h.lt_or_eq with hlt | rfl
  · have hle := topBit_mul_two_pow_le e hlt
    have hdvd := pow_dvd_pow 2 hle
    refine ⟨Nat.mod_eq_zero_of_dvd (hdvd.mul_left q), fun heven => ?_⟩
    rw [Nat.mul_div_assoc q hdvd, Nat.mul_mod, heven, Nat.zero_mul, Nat.zero_mod]
  · have hshift : 53 + e - 52 = e + 1 := by omega
    have hsplit : 2 ^ (53 + e) = 2 ^ 52 * 2 ^ (e + 1) := by rw [← pow_add]; congr 1; omega
    rw [← pow_add, topBit_two_pow, hshift, hsplit]
    exact ⟨Nat.mul_mod_left _ _, fun _ => by rw [Nat.mul_div_cancel _ (Nat.two_pow_pos _)]; decide⟩

/-- A representable value of magnitude at least `2 ^ 52 * 2 ^ j` is a multiple of `2 ^ j`. -/
theorem F64.two_pow_dvd_units {r : F64} {j : Nat} (hr : r.representable = true) (h : 2 ^ 52 * 2 ^ j ≤ r.units.natAbs) :
    (2 : Int) ^ j ∣ r.units := by
  have hpos : r.units.natAbs ≠ 0 := by have := Nat.two_pow_pos j; omega
  have htop : 52 + j ≤ topBit r.units.natAbs := by
    rw [topBit_eq_log2, Nat.le_log2 hpos, pow_add]
    exact h
  have hdvd : 2 ^ (topBit r.units.natAbs - 52) ∣ r.units.natAbs :=
    Nat.dvd_of_mod_eq_zero (of_decide_eq_true hr)
  rw [← Int.natAbs_dvd_natAbs, Int.natAbs_pow]
  exact (pow_dvd_pow 2 (by omega)).trans hdvd

/-- A representable value, scaled to the exact result `p`, is a multiple of the rounding unit of `p`, or it lies below the
binade of `p`. -/
theorem F64.onGrid_or_below {r : F64} (hr : r.representable = true) (p s : Nat) :
    (∃ c : Int, r.units = c * 2 ^ (droppedBits p s - s)) ∨
    (r.units * 2 ^ s < 2 ^ 52 * 2 ^ droppedBits p s ∧ 2 ^ 52 * 2 ^ droppedBits p s ≤ p) := by
  rcases (le_droppedBits p s).eq_or_lt with heq | hlt
  · exact .inl ⟨r.units, by rw [← heq]; simp⟩
  · rcases Nat.lt_or_ge r.units.natAbs (2 ^ 52 * 2 ^ (droppedBits p s - s)) with hsmall | hbig
    · refine .inr ⟨?_, two_pow_droppedBits_le hlt⟩
      have hunits : r.units < 2 ^ 52 * 2 ^ (droppedBits p s - s) :=
        Int.le_natAbs.trans_lt (by exact_mod_cast hsmall)
      calc r.units * 2 ^ s < 2 ^ 52 * 2 ^ (droppedBits p s - s) * 2 ^ s := by gcongr
        _ = 2 ^ 52 * 2 ^ droppedBits p s := by rw [mul_assoc, pow_sub_mul_pow 2 hlt.le]
    · obtain ⟨c, hc⟩ := F64.two_pow_dvd_units hr hbig
      exact .inl ⟨c, by rw [hc, mul_comm]⟩

/-- `a` is a binary64 value nearest to `n / 2 ^ s` units, and its significand is even when another one is equally near. -/
def F64.IsNearestEven (n : Int) (s : Nat) (a : F64) : Prop :=
  a.representable = true ∧ ∀ r : F64, r.representable = true →
    (n - a.units * 2 ^ s).natAbs ≤ (n - r.units * 2 ^ s).natAbs ∧
    ((n - a.units * 2 ^ s).natAbs = (n - r.units * 2 ^ s).natAbs → r ≠ a →
      a.units.natAbs / 2 ^ (topBit a.units.natAbs - 52) % 2 = 0)

@[simp] theorem F64.representable_neg (m : Int) : F64.representable ⟨-m⟩ = F64.representable ⟨m⟩ := by
  simp [F64.representable]

/-- Rounding to nearest is symmetric about zero. -/
theorem F64.IsNearestEven.neg {n : Int} {s : Nat} {a : F64} (h : F64.IsNearestEven n s a) :
    F64.IsNearestEven (-n) s ⟨-a.units⟩ := by
  have hdist (u : Int) : (-n - u * 2 ^ s).natAbs = (n - -u * 2 ^ s).natAbs := by
    rw [← Int.natAbs_neg]; congr 1; ring
  refine ⟨(F64.representable_neg _).trans h.1, fun r hr => ?_⟩
  obtain ⟨hnear, htie⟩ := h.2 ⟨-r.units⟩ ((F64.representable_neg _).trans hr)
  simp only [hdist, neg_neg, Int.natAbs_neg]
  refine ⟨hnear, fun heq hne => htie heq fun hra => hne ?_⟩
  simp [← hra]

/-- The rounding of a magnitude, scaled to the exact result, is the rounding shift's multiple of the rounding unit. -/
theorem roundMagnitude_mul_two_pow (p s : Nat) :
    roundMagnitude p s * 2 ^ s = roundShift p (droppedBits p s) * 2 ^ droppedBits p s := by
  rw [roundMagnitude, mul_assoc, pow_sub_mul_pow 2 (le_droppedBits p s)]

theorem roundMagnitude_isNearestEven (p s : Nat) : F64.IsNearestEven p s ⟨roundMagnitude p s⟩ := by
  obtain ⟨hrep, heven⟩ := significand_mul_two_pow (droppedBits p s - s) (roundShift_droppedBits_le p s)
  refine ⟨decide_eq_true hrep, fun r hr => ?_⟩
  have hscale : (roundMagnitude p s : Int) * 2 ^ s = roundShift p (droppedBits p s) * 2 ^ droppedBits p s := by
    exact_mod_cast roundMagnitude_mul_two_pow p s
  simp only [hscale]
  rcases F64.onGrid_or_below hr p s with ⟨c, hc⟩ | ⟨hbelow, hbinade⟩
  · have hgrid : r.units * 2 ^ s = c * 2 ^ droppedBits p s := by
      rw [hc, mul_assoc, pow_sub_mul_pow 2 (le_droppedBits p s)]
    obtain ⟨hnear, htie⟩ := roundShift_nearest p (droppedBits p s) c
    rw [hgrid]
    refine ⟨hnear, fun heq hne => heven (htie heq fun hcq => hne ?_)⟩
    rw [F64.mk.injEq, hc, hcq, roundMagnitude]
    push_cast
    rfl
  · have hnear := (roundShift_nearest p (droppedBits p s) (2 ^ 52)).1
    zify at hbinade
    have hfar : ((p : Int) - 2 ^ 52 * 2 ^ droppedBits p s).natAbs < ((p : Int) - r.units * 2 ^ s).natAbs := by omega
    exact ⟨by omega, fun heq => by omega⟩

/-- Every rounding of an exact result answers the nearest binary64 value, ties to even. -/
theorem F64.round_isNearestEven (n : Int) (s : Nat) : F64.IsNearestEven n s (F64.round n s) := by
  have hnat (p : Nat) : F64.round p s = ⟨roundMagnitude p s⟩ := by simp [F64.round]
  obtain ⟨p, rfl | rfl⟩ := n.eq_nat_or_neg
  · rw [hnat]
    exact roundMagnitude_isNearestEven p s
  · have hneg : F64.round (-(p : Int)) s = ⟨-(F64.round p s).units⟩ := by rw [← F64.round_neg]
    rw [hneg, hnat]
    exact (roundMagnitude_isNearestEven p s).neg

/-- Settles O34: the operations are the rounding of the exact result by definition, and the rounding is to nearest, ties to even. -/
theorem roundingIsToNearestEven : Obligations.RoundingIsToNearestEven :=
  ⟨fun _ _ => ⟨rfl, rfl, rfl⟩, F64.round_isNearestEven⟩

end Sys2Proof.Machine
end

section
/-! PROOFS. What one step can do, said once, by the agent whose turn it is (20_memory.md R82, 44_passes.md R270; log 9). -/

namespace Sys2Proof.Machine

/-- The state with its next turn taken from the list. -/
def State.afterFetch (s : State) : State := { s with inputs := s.inputs.tail }

theorem State.fetch_snd (s : State) : s.fetch.2 = s.afterFetch := by
  unfold State.fetch State.afterFetch
  split <;> rename_i h
  · rw [h, List.tail_nil, ← h]
  all_goals simp only [h, List.tail_cons]

/-- The orchestrator moves only after a step operation that completes. -/
theorem advanceAfter_next {o : Host.Outcome State Fault Refusal} {t : State} (h : advanceAfter o = .next t) :
    ∃ u, o = .next u ∧ t = u.advance := by
  cases o with
  | next u => exact ⟨u, rfl, by injection h with h; exact h.symm⟩
  | fault _ => cases h
  | refused _ => cases h

/-- A turn of CORE is idle, or runs the step operation that CORE issues and then the advance. -/
theorem takeTurn_coreTurn_next {s u t : State} (h : takeTurn s.coreTurn u = .next t) :
    (s.issue = none ∧ t = u) ∨ ∃ i v, s.issue = some i ∧ exec i u = .next v ∧ t = v.advance := by
  unfold State.coreTurn at h
  cases hi : s.issue with
  | none =>
    rw [hi] at h
    exact .inl ⟨rfl, by injection h with h; exact h.symm⟩
  | some i =>
    rw [hi] at h
    obtain ⟨v, hv, ht⟩ := advanceAfter_next h
    exact .inr ⟨i, v, rfl, hv, ht⟩

/-- An idle turn of CORE, a step operation that CORE issues with the advance after it, a reset, or an operation that runs by
itself: a step that answers a next state is one of these. -/
theorem step_next_cases {s t : State} (h : step s = .next t) :
    (s.inputs.headD .core = .core ∧ s.issue = none ∧ t = s.afterFetch) ∨
    (s.inputs.headD .core = .core ∧ ∃ i u, s.issue = some i ∧ exec i s.afterFetch = .next u ∧ t = u.advance) ∨
    (s.inputs.headD .core = .reset ∧ t = s.afterFetch.applyReset) ∨
    ∃ c, ((∃ w, s.inputs.headD .core = .host w ∧ c = .hostTx w) ∨
        ∃ w, s.inputs.headD .core = .desc w ∧ c = .stepDesc w) ∧
      exec (decode c) s.afterFetch = .next t := by
  rw [step, s.fetch_snd] at h
  unfold State.fetch at h
  split at h <;> rename_i hin <;> simp only [hin, List.headD_nil, List.headD_cons]
  · simpa using takeTurn_coreTurn_next h
  · simpa using takeTurn_coreTurn_next h
  · simpa [takeTurn, eq_comm] using h
  · simpa [takeTurn] using h
  · simpa [takeTurn] using h

end Sys2Proof.Machine
end

section
/-! PROOFS. The invariant and every named update of the state: the flags, the configuration, the orchestrator's moves, the
memories (10_state.md R39, 45_host.md R303, 44_passes.md R270 to R272, 20_memory.md R74). -/

namespace Sys2Proof.Machine

variable {s : State}

theorem State.blockOk_iff (s : State) (x y : BitVec 20) : s.blockOk x y = true ↔
    x.toNat % 2 = 0 ∧ y.toNat % 2 = 0 ∧ x.toNat < 2 * s.width.toNat ∧ y.toNat < 2 * s.height.toNat := by
  simp only [State.blockOk, coordEven, Bool.and_eq_true, decide_eq_true_eq, and_assoc]
  rfl

theorem State.pixelOk_iff (s : State) (x y : BitVec 20) : s.pixelOk x y = true ↔
    x.toNat < 2 * s.width.toNat ∧ y.toNat < 2 * s.height.toNat := by
  simp only [State.pixelOk, Bool.and_eq_true, decide_eq_true_eq]
  rfl

theorem State.configOk_iff (s : State) : s.configOk = true ↔ 1 ≤ s.width.toNat ∧ 1 ≤ s.height.toNat ∧
    s.srcLen.toNat = s.width.toNat * s.height.toNat ∧ s.width.toNat * s.height.toNat ≤ s.capacity := by
  simp [State.configOk, and_assoc]

/-- The first block of a scan lies inside every image (R270). -/
theorem State.scanStart_blockOk (hw : 1 ≤ s.width.toNat) (hh : 1 ≤ s.height.toNat) :
    s.blockOk scanStart.x scanStart.y = true :=
  (s.blockOk_iff _ _).2 ⟨rfl, rfl, Nat.mul_pos two_pos hw, Nat.mul_pos two_pos hh⟩

/-- The last pixel lies inside every image: OW and OH fit the 20-bit pointer (R118, R270). -/
theorem State.backwardStart_pixelOk (hw : 1 ≤ s.width.toNat) (hh : 1 ≤ s.height.toNat) :
    s.pixelOk s.backwardStart.x s.backwardStart.y = true := by
  rw [State.pixelOk_iff]
  unfold State.backwardStart State.outWidth State.outHeight
  bv_omega

/-- The codes of the preconditions (R321). -/
theorem State.precondition_le (s : State) : s.precondition.toNat ≤ 4 := by
  unfold State.precondition
  split_ifs <;> decide

/-- The invariant reads neither IRQ_EN nor the model's own fields. -/
theorem State.Inv.withOwn (h : s.Inv) {irqEn : Bool} {inputs : List Input} {rdata : Option Word} {draws resets : Nat} :
    State.Inv { s with irqEn := irqEn, inputs := inputs, rdata := rdata, draws := draws, resets := resets } :=
  ⟨h.capacity_pos, h.capacity_le, { h.registers with }, { h.run with }, { h.memory with }⟩

theorem State.Inv.withMemory (h : s.Inv) {src dst : Memory}
    (hm : State.MemoryOk { s with src := src, dst := dst }) : State.Inv { s with src := src, dst := dst } :=
  ⟨h.capacity_pos, h.capacity_le, { h.registers with }, { h.run with }, hm⟩

/-- While idle the invariant does not read the configuration. -/
theorem State.Inv.withConfig (h : s.Inv) (hb : s.busy = false) (w ht : BitVec 16) (n : BitVec 32) :
    State.Inv { s with width := w, height := ht, srcLen := n } := by
  have hbusy : State.busy { s with width := w, height := ht, srcLen := n } = false := hb
  refine ⟨h.capacity_pos, h.capacity_le, { h.registers with }, ⟨?_, ?_, ?_, ?_⟩, { h.memory with }⟩
  · simp [hbusy]
  · simp [State.pointerOk, (State.busy_false s).1 hb]
  · simp [hbusy]
  · simp [hbusy]

theorem State.Inv.clearDone (h : s.Inv) : s.clearDone.Inv :=
  ⟨h.capacity_pos, h.capacity_le,
    { h.registers with
      busy_clear := fun hb => ⟨rfl, (h.registers.busy_clear hb).2⟩
      not_both := by simp },
    { h.run with }, { h.memory with }⟩

theorem State.Inv.clearError (h : s.Inv) : s.clearError.Inv :=
  ⟨h.capacity_pos, h.capacity_le,
    { h.registers with
      busy_clear := fun hb =>
        have ⟨hdone, _, _, hpass⟩ := h.registers.busy_clear hb
        ⟨hdone, rfl, rfl, hpass⟩
      err_code := by simp
      not_both := by simp
      code_range := by simp },
    { h.run with }, { h.memory with }⟩

/-- A refused START leaves the machine idle with ERR and the code (R322). -/
theorem State.Inv.raisePrecondition (h : s.Inv) (hb : s.busy = false) (hdone : s.done = false) {c : BitVec 4} (hc : c ≠ 0#4)
    (hle : c.toNat ≤ 4) : (s.raisePrecondition c).Inv :=
  ⟨h.capacity_pos, h.capacity_le,
    { h.registers with
      busy_clear := fun hb' => absurd (hb.symm.trans hb') (by decide)
      err_code := by simp [hc]
      not_both := by simp [hdone]
      code_range := hle },
    { h.run with }, { h.memory with }⟩

/-- A pass may be entered with the flags clear, a checked configuration, and a pointer inside the image (R271). -/
theorem State.Inv.enterPass (h : s.Inv) (hflags : s.done = false ∧ s.err = false ∧ s.errcode = 0#4)
    (hconfig : s.configOk = true) {p : Phase} (hp : p ≠ .idle)
    {q : StepPointer} (hq : (s.enterPass p q).pointerOk = true) : (s.enterPass p q).Inv := by
  obtain ⟨hdone, herr, hcode⟩ := hflags
  have hbusy : (s.enterPass p q).busy = true := (State.busy_eq _).2 hp
  have hpass : (s.enterPass p q).pass ≠ 0#2 := by cases p <;> simp_all [State.pass]
  exact ⟨h.capacity_pos, h.capacity_le,
    { h.registers with
      busy_clear := fun _ => ⟨hdone, herr, hcode, hpass⟩
      idle_pass := by simp [hbusy] },
    ⟨fun _ => hconfig, hq, fun _ => rfl, fun _ => rfl⟩, { h.memory with }⟩

theorem State.Inv.withPointer (h : s.Inv) {q : StepPointer} (hq : State.pointerOk { s with sp := q } = true) :
    State.Inv { s with sp := q } :=
  ⟨h.capacity_pos, h.capacity_le, { h.registers with }, { h.run with pointer := hq }, { h.memory with }⟩

/-- Completion sets DONE on a run, whose ERR is clear (R272). -/
theorem State.Inv.complete (h : s.Inv) (hb : s.busy = true) : s.complete.Inv := by
  have hidle : s.complete.busy = false := rfl
  obtain ⟨_, herr, _⟩ := h.registers.busy_clear hb
  exact ⟨h.capacity_pos, h.capacity_le,
    { h.registers with
      busy_clear := by simp [hidle]
      idle_pass := fun _ => rfl
      not_both := by simp [herr] },
    ⟨by simp [hidle], rfl, by simp [hidle], by simp [hidle]⟩, { h.memory with }⟩

/-- The registers and memories of reset satisfy the invariant whatever the capacity is (R38, R48). -/
theorem State.reset_withCapacity_inv {c : Nat} (hpos : 1 ≤ c) (hle : c ≤ 67108864) :
    State.Inv { State.reset with capacity := c } := by
  have hidle : State.busy { State.reset with capacity := c } = false := rfl
  exact ⟨hpos, hle, ⟨by simp [hidle], fun _ => rfl, by simp [State.reset], by simp [State.reset], by simp [State.reset]⟩,
    ⟨by simp [hidle], rfl, by simp [hidle], by simp [hidle]⟩, ⟨rfl, rfl, rfl, rfl⟩⟩

theorem State.Inv.applyReset (h : s.Inv) : s.applyReset.Inv :=
  (State.reset_withCapacity_inv h.capacity_pos h.capacity_le).withOwn

end Sys2Proof.Machine
end

section
/-! PROOFS. Every operation, the orchestrator's advance and every step keep the invariant (10_state.md R39, 44_passes.md R270). -/

namespace Sys2Proof.Machine

variable {s t : State}

/-- START keeps the invariant: an accepted one enters pass 1 with the configuration it has checked (R300, R321). -/
theorem State.Inv.start (h : s.Inv) : s.start.Inv := by
  have hclear := h.clearDone.clearError
  rcases s.start_cases with ⟨_, hs⟩ | ⟨hb, hcode, hs⟩ | ⟨_, hcode, hs⟩ <;> rw [hs]
  · exact h
  · exact hclear.raisePrecondition hb rfl hcode s.precondition_le
  · have hconfig := s.precondition_zero.1 hcode
    obtain ⟨hw, hh, _, _⟩ := s.configOk_iff.1 hconfig
    exact hclear.enterPass ⟨rfl, rfl, rfl⟩ hconfig (by decide) (State.scanStart_blockOk hw hh)

theorem State.Inv.writeCtrl (h : s.Inv) (data : Word) : (s.writeCtrl data).Inv := by
  have hen : State.Inv { s with irqEn := data.getLsbD 1 } := h.withOwn
  unfold State.writeCtrl
  dsimp only
  split
  · exact hen.start
  · exact hen

theorem State.Inv.writeStatus (h : s.Inv) (data : Word) : (s.writeStatus data).Inv := by
  unfold State.writeStatus
  dsimp only
  split <;> split
  · exact h.clearDone.clearError
  · exact h.clearError
  · exact h.clearDone
  · exact h

/-- A write of WIDTH, HEIGHT or SRC_LEN takes effect while idle only, where the invariant leaves them free (R35 to R37). -/
theorem State.Inv.writeIfIdle (h : s.Inv) (w ht : BitVec 16) (n : BitVec 32) :
    State.Inv (if s.busy then s else { s with width := w, height := ht, srcLen := n }) := by
  split
  · exact h
  · rename_i hb
    exact h.withConfig (Bool.not_eq_true _ ▸ hb) w ht n

theorem State.Inv.regWrite (h : s.Inv) (off : BitVec 28) (data : Word) : (s.regWrite off data).Inv := by
  unfold State.regWrite
  split
  · exact h.writeCtrl data
  · exact h.writeStatus data
  · exact h.writeIfIdle (data.extractLsb' 0 16) s.height s.srcLen
  · exact h.writeIfIdle s.width (data.extractLsb' 0 16) s.srcLen
  · exact h.writeIfIdle s.width s.height data
  · exact h

theorem State.Inv.srcWrite (h : s.Inv) {k : Nat} (hk : k < s.capacity) (v : Word) : (s.srcWrite k v).Inv :=
  h.withMemory (dst := s.dst) { h.memory with
    src_wf := Memory.set_wf _ _ _ h.memory.src_wf
    src_below := Memory.set_below _ _ _ _ h.memory.src_below hk }

/-- A step operation that completes keeps the invariant: its writes lie inside DST (R74). -/
theorem State.Inv.runStep {ok : Bool} {pat : Pattern} {x y : Nat} {ws : List (Nat × Word)} (h : s.Inv)
    (ht : runStep s ok pat x y ws = .next t) : t.Inv := by
  obtain ⟨_, _, hws, rfl⟩ := runStep_next ht
  rw [State.dstWrites_frame]
  exact h.withMemory (src := s.src) { h.memory with
    dst_wf := State.dstWrites_dst_wf _ _ h.memory.dst_wf
    dst_below := State.dstWrites_dst_below _ _ _ h.memory.dst_below hws }

/-- Every operation keeps the invariant. -/
theorem State.Inv.exec {i : Instr} (h : s.Inv) (ht : exec i s = .next t) : t.Inv := by
  rcases exec_next_cases ht with ⟨off, data, _, rfl⟩ | ⟨off, data, _, _, hoff, rfl⟩ |
    ⟨⟨x, y, rfl | rfl | rfl⟩ | ⟨x, y, rfl⟩, _⟩ | hown
  · exact (h.regWrite off data).withOwn
  · exact (h.srcWrite hoff data).withOwn
  · exact h.runStep ht
  · exact h.runStep ht
  · exact h.runStep ht
  · exact h.runStep ht
  · rw [hown]
    exact h.withOwn

/-- The block after the present one lies inside the image, unless the scan is over (R252, R270). -/
theorem State.nextOrigin_blockOk (hok : s.blockOk s.sp.x s.sp.y = true) (hmore : s.nextOrigin.2.toNat ≠ s.outHeight) :
    s.blockOk s.nextOrigin.1 s.nextOrigin.2 = true := by
  obtain ⟨hx, hy, hxw, hyh⟩ := (State.blockOk_iff _ _ _).1 hok
  have hw := s.width.isLt
  have hh := s.height.isLt
  have hright : (s.sp.x + 2#20).toNat = s.sp.x.toNat + 2 := by bv_omega
  have hdown : (s.sp.y + 2#20).toNat = s.sp.y.toNat + 2 := by bv_omega
  have hzero : (0#20).toNat = 0 := rfl
  rw [State.blockOk_iff]
  unfold State.nextOrigin State.outWidth State.outHeight at *
  split at hmore <;> rename_i hlast
  · dsimp only at hmore
    simp only [if_pos hlast]
    omega
  · simp only [if_neg hlast]
    omega

theorem State.pointerOk_of_block (hp : s.phase = .p1 ∨ s.phase = .p2) : s.pointerOk = s.blockOk s.sp.x s.sp.y := by
  rcases hp with hp | hp <;> simp only [State.pointerOk, hp]

theorem State.pointerOk_of_pixel (hp : s.phase = .p3) : s.pointerOk = s.pixelOk s.sp.x s.sp.y := by
  simp only [State.pointerOk, hp]

theorem State.Inv.withBlock (h : s.Inv) (hp : s.phase = .p1 ∨ s.phase = .p2) {q : StepPointer}
    (hq : s.blockOk q.x q.y = true) : State.Inv { s with sp := q } :=
  h.withPointer ((State.pointerOk_of_block (s := { s with sp := q }) hp).trans hq)

theorem State.Inv.withPixel (h : s.Inv) (hp : s.phase = .p3) {q : StepPointer} (hq : s.pixelOk q.x q.y = true) :
    State.Inv { s with sp := q } :=
  h.withPointer ((State.pointerOk_of_pixel (s := { s with sp := q }) hp).trans hq)

/-- The block scan keeps the invariant, whether it moves on or enters the next pass (R270). -/
theorem State.Inv.nextBlock (h : s.Inv) (hp : s.phase = .p1 ∨ s.phase = .p2) {next : Phase} (hnext : next ≠ .idle)
    {entry : StepPointer} (hentry : (s.enterPass next entry).pointerOk = true) : (s.nextBlock next entry).Inv := by
  unfold State.nextBlock
  split
  · have hb : s.busy = true := (State.busy_eq s).2 (by rcases hp with hp | hp <;> simp [hp])
    obtain ⟨hdone, herr, hcode, _⟩ := h.registers.busy_clear hb
    exact h.enterPass ⟨hdone, herr, hcode⟩ (h.run.config hb) hnext hentry
  · rename_i hmore
    exact h.withBlock hp (State.nextOrigin_blockOk (State.pointerOk_of_block hp ▸ h.run.pointer) hmore)

/-- The backward scan keeps the invariant, whether it moves on or completes the run (R257, R270, R272). -/
theorem State.Inv.advance_p3 (h : s.Inv) (hp : s.phase = .p3) : s.advance.Inv := by
  obtain ⟨hx, hy⟩ := (State.pixelOk_iff _ _ _).1 (State.pointerOk_of_pixel hp ▸ h.run.pointer)
  have hw := s.width.isLt
  simp only [State.advance, hp]
  split_ifs
  · have hleft : s.pixelOk (s.sp.x - 1#20) s.sp.y = true := (State.pixelOk_iff _ _ _).2 (by bv_omega)
    simpa only [hp] using h.withPixel hp (q := ⟨s.sp.x - 1#20, s.sp.y, s.sp.sub⟩) hleft
  · have hup : s.pixelOk (BitVec.ofNat 20 (s.outWidth - 1)) (s.sp.y - 1#20) = true :=
      (State.pixelOk_iff _ _ _).2 (by unfold State.outWidth; bv_omega)
    simpa only [hp] using h.withPixel hp (q := ⟨BitVec.ofNat 20 (s.outWidth - 1), s.sp.y - 1#20, s.sp.sub⟩) hup
  · exact h.complete ((State.busy_eq s).2 (by simp [hp]))

/-- The orchestrator's advance keeps the invariant: in a run the checked configuration is not empty, so that both starting
pointers lie inside the image (R270). -/
theorem State.Inv.advance (h : s.Inv) : s.advance.Inv := by
  have hsize (hp : s.phase ≠ .idle) : 1 ≤ s.width.toNat ∧ 1 ≤ s.height.toNat :=
    have ⟨hw, hh, _, _⟩ := s.configOk_iff.1 (h.run.config ((State.busy_eq s).2 hp))
    ⟨hw, hh⟩
  cases hp : s.phase with
  | idle => simpa only [State.advance, hp] using h
  | p1 =>
    obtain ⟨hw, hh⟩ := hsize (by simp [hp])
    have hentry : (s.enterPass .p2 scanStart).pointerOk = true := State.scanStart_blockOk hw hh
    simpa only [State.advance, hp] using h.nextBlock (.inl hp) (by decide) hentry
  | p2 =>
    have hok : s.blockOk s.sp.x s.sp.y = true := State.pointerOk_of_block (.inr hp) ▸ h.run.pointer
    cases hsub : s.sp.sub with
    | tr => simpa only [State.advance, hp, hsub] using h.withBlock (.inr hp) (q := ⟨s.sp.x, s.sp.y, .bl⟩) hok
    | bl =>
      obtain ⟨hw, hh⟩ := hsize (by simp [hp])
      have hentry : (s.enterPass .p3 s.backwardStart).pointerOk = true := State.backwardStart_pixelOk hw hh
      have hstay := h.withBlock (.inr hp) (q := ⟨s.sp.x, s.sp.y, .tr⟩) hok
      simpa only [State.advance, hp, hsub] using hstay.nextBlock (.inr hp) (by decide) hentry
  | p3 => exact h.advance_p3 hp

/-- Settles O57: every turn keeps the invariant, be it CORE's, a host transaction, a descriptor or reset. -/
theorem everyStepKeepsTheInvariant : Obligations.EveryStepKeepsTheInvariant := by
  intro s t h hstep
  have hfetch : s.afterFetch.Inv := h.withOwn
  rcases step_next_cases hstep with ⟨_, _, rfl⟩ | ⟨_, i, u, _, hu, rfl⟩ | ⟨_, rfl⟩ | ⟨c, _, ht⟩
  · exact hfetch
  · exact (hfetch.exec hu).advance
  · exact hfetch.applyReset
  · exact hfetch.exec ht

theorem Config.maxSrcPixels_pos : 1 ≤ Config.maxSrcPixels := Nat.le_add_left _ _

theorem Config.maxSrcPixels_le : Config.maxSrcPixels ≤ 67108864 := Config.capacityIndex.isLt

/-- Settles O58: the bounds of the invariant on CAPACITY are those of MAX_SRC_PIXELS, and the machine is idle. -/
theorem resetSatisfiesTheInvariant : Obligations.ResetSatisfiesTheInvariant :=
  State.reset_withCapacity_inv Config.maxSrcPixels_pos Config.maxSrcPixels_le

theorem State.pass_of_busy (hb : s.busy = true) : s.pass = 1#2 ∨ s.pass = 2#2 ∨ s.pass = 3#2 := by
  cases hp : s.phase <;> simp_all [State.busy, State.pass]

/-- Settles O59: the four clauses of R39 are clauses of the invariant, which reset and every step establish. -/
theorem registerInvariantsHold : Obligations.RegisterInvariantsHold := by
  intro t ht
  have h : t.Inv := by
    rcases ht with rfl | ⟨s, hs, hstep⟩
    · exact resetSatisfiesTheInvariant
    · exact everyStepKeepsTheInvariant s t hs hstep
  refine ⟨fun hb => ?_, h.registers.idle_pass, h.registers.err_code, h.registers.not_both⟩
  obtain ⟨hdone, herr, hcode, _⟩ := h.registers.busy_clear hb
  exact ⟨hdone, herr, hcode, State.pass_of_busy hb⟩

/-- Settles O55: the values are those of the definition, and MAX_SRC_PIXELS lies in the range of R7. -/
theorem resetStateHasTheSpecValues : Obligations.ResetStateHasTheSpecValues :=
  ⟨rfl, by decide, rfl, rfl, rfl, rfl, rfl, rfl, rfl, Config.maxSrcPixels_pos, Config.maxSrcPixels_le, rfl, rfl, rfl, rfl⟩

end Sys2Proof.Machine
end

section
/-! PROOFS. What operations keep: CAPACITY always (10_state.md R38), SRC and the configuration of a run (R45, R303); and the
reserved bits of the registers (R32). -/

namespace Sys2Proof.Machine

variable {s t : State}

theorem State.regWrite_capacity (s : State) (off : BitVec 28) (data : Word) : (s.regWrite off data).capacity = s.capacity := by
  rw [State.regWrite_frame]

theorem State.regWrite_src (s : State) (off : BitVec 28) (data : Word) : (s.regWrite off data).src = s.src := by
  rw [State.regWrite_frame]

theorem State.advance_capacity (s : State) : s.advance.capacity = s.capacity := by
  rw [State.advance_frame]

/-- No operation changes CAPACITY. -/
theorem exec_capacity {i : Instr} (h : exec i s = .next t) : t.capacity = s.capacity := by
  rcases exec_next_cases h with ⟨off, data, _, rfl⟩ | ⟨off, data, _, _, _, rfl⟩ | ⟨_, hdst⟩ | hown
  · exact s.regWrite_capacity off data
  · rfl
  · rw [hdst]
  · rw [hown]

theorem step_capacity (h : step s = .next t) : t.capacity = s.capacity := by
  rcases step_next_cases h with ⟨_, _, rfl⟩ | ⟨_, i, u, _, hu, rfl⟩ | ⟨_, rfl⟩ | ⟨c, _, ht⟩
  · rfl
  · exact u.advance_capacity.trans (exec_capacity (s := s.afterFetch) hu)
  · rfl
  · exact exec_capacity (s := s.afterFetch) ht

/-- Settles O15: offset 5 has no write, its read is CAPACITY, and no step writes the field. -/
theorem capacityIsReadOnlyAndConstant : Obligations.CapacityIsReadOnlyAndConstant :=
  ⟨fun _ _ => rfl, fun _ => rfl, fun _ _ => step_capacity, rfl⟩

/-- Settles O51: a REG_WR keeps the configuration while BUSY, a SRC_WR is ignored, a step operation writes DST alone. -/
theorem busyKeepsSourceAndConfiguration : Obligations.BusyKeepsSourceAndConfiguration := by
  intro i s t hb h
  rcases exec_next_cases h with ⟨off, data, _, rfl⟩ | ⟨_, _, _, hidle, _⟩ | ⟨_, hdst⟩ | hown
  · obtain ⟨hw, hh, hlen, hphase, hsp, hwp, hwab⟩ := s.regWrite_busy off data hb
    exact ⟨s.regWrite_src off data, hw, hh, hlen, s.regWrite_capacity off data, hphase, hsp, hwp, hwab⟩
  · exact absurd (hb.symm.trans hidle) (by decide)
  · rw [hdst]
    simp
  · rw [hown]
    simp

/-- CTRL reads its bit 1 only (R33). -/
theorem State.ctrlWord_reserved (s : State) : s.ctrlWord.extractLsb' 2 30 = 0#30 := by
  unfold State.ctrlWord
  cases s.irqEn <;> decide

theorem State.statusWord_reserved (s : State) : s.statusWord.getLsbD 3 = false ∧ s.statusWord.extractLsb' 6 2 = 0#2 ∧
    s.statusWord.extractLsb' 12 20 = 0#20 := by
  unfold State.statusWord
  generalize s.pass = p
  generalize s.errcode = c
  cases s.err <;> cases s.done <;> cases s.busy <;> revert p c <;> decide

theorem State.regRead_reserved (s : State) {off : BitVec 28} (h : 6 ≤ off.toNat) : s.regRead off = 0#32 := by
  obtain ⟨k, hk⟩ := Nat.exists_eq_add_of_le' h
  simp only [State.regRead, hk]

/-- CAPACITY and the reserved offsets ignore a write (R32, R38). -/
theorem State.regWrite_ignored (s : State) {off : BitVec 28} (h : 5 ≤ off.toNat) (data : Word) : s.regWrite off data = s := by
  obtain ⟨k, hk⟩ := Nat.exists_eq_add_of_le' h
  simp only [State.regWrite, hk]

theorem State.writeCtrl_mask (s : State) (data : Word) : s.writeCtrl (data &&& 0x3#32) = s.writeCtrl data := by
  simp [State.writeCtrl]

theorem State.writeStatus_mask (s : State) (data : Word) : s.writeStatus (data &&& 0x6#32) = s.writeStatus data := by
  simp [State.writeStatus]

/-- A mask of the low half does not change the field that a write of WIDTH or HEIGHT stores. -/
theorem extractLsb'_and_low (data : Word) : (data &&& 0xFFFF#32).extractLsb' 0 16 = data.extractLsb' 0 16 := by
  rw [BitVec.extractLsb'_and]
  exact BitVec.and_allOnes

theorem State.writeWidth_mask (s : State) (data : Word) : s.writeWidth (data &&& 0xFFFF#32) = s.writeWidth data := by
  simp only [State.writeWidth, extractLsb'_and_low]

theorem State.writeHeight_mask (s : State) (data : Word) : s.writeHeight (data &&& 0xFFFF#32) = s.writeHeight data := by
  simp only [State.writeHeight, extractLsb'_and_low]

/-- The effect of a REG_WR is that of the register write. -/
theorem exec_regWr_congr {off : BitVec 28} {data data' : Word} (h : s.regWrite off data' = s.regWrite off data) :
    exec (.regWr off data) s = exec (.regWr off data') s := by
  simp only [exec, execRegWr, h]

/-- Settles O14: the reserved bits are constant zeros of the register words, and a write reads only the bits of its field. -/
theorem reservedRegisterBitsAndOffsets : Obligations.ReservedRegisterBitsAndOffsets := by
  intro s
  refine ⟨⟨s.ctrlWord_reserved, s.statusWord_reserved⟩,
    fun off => ⟨rfl, fun h => ?_, fun h => ?_, fun h => ?_, s.regRead_reserved⟩,
    fun data => ⟨exec_regWr_congr (s.writeCtrl_mask data), exec_regWr_congr (s.writeStatus_mask data),
      exec_regWr_congr (s.writeWidth_mask data), exec_regWr_congr (s.writeHeight_mask data)⟩, fun off data h => ?_⟩
  · simp only [State.regRead, h]
  · simp only [State.regRead, h]
  · rcases h with h | h <;> simp only [State.regRead, h] <;> exact BitVec.extractLsb'_append_eq_left
  · simp only [exec, execRegWr, s.regWrite_ignored (Nat.le_of_succ_le h)]
    rfl

end Sys2Proof.Machine
end

section
/-! PROOFS. Where gathers and output cells lie: every sample inside its buffer, every cell inside the image, and both inside the
memories when the image fits (41_gather.md R142, R177; 20_memory.md R74). -/

namespace Sys2Proof.Machine

variable {s : State}

/-- A clamped coordinate lies in its range (R142). -/
theorem cclamp_bounds {n : Nat} (hn : 1 ≤ n) (v : Int) : 0 ≤ cclamp v n ∧ cclamp v n ≤ (n : Int) - 1 := by
  unfold cclamp clampValue
  omega

/-- Row by row, the index of a cell of a buffer lies below the buffer's size (R177). -/
theorem gatherIndex_lt {bw bh : Nat} (hw : 1 ≤ bw) (hh : 1 ≤ bh) (pat : Pattern) (x y : Nat) (i j : Fin 4) :
    gatherIndex pat bw bh x y i j < bw * bh := by
  obtain ⟨hcol, hcolLast⟩ := cclamp_bounds hw (offset pat x y i.val j.val).1
  obtain ⟨hrow, hrowLast⟩ := cclamp_bounds hh (offset pat x y i.val j.val).2
  unfold gatherIndex gatherCell
  lift cclamp (offset pat x y i.val j.val).1 bw to Nat using hcol with col
  lift cclamp (offset pat x y i.val j.val).2 bh to Nat using hrow with row
  calc (row * bw + col : Int).toNat
    _ = bw * row + col := by rw [Nat.mul_comm]; rfl
    _ < bh * bw := Nat.mul_add_lt_mul_of_lt_of_lt (by omega) (by omega)
    _ = bw * bh := Nat.mul_comm bh bw

/-- The buffer of an image that fits SRC lies inside its memory (R71, R73). -/
theorem State.buffer_le_spaceSize (hfit : s.width.toNat * s.height.toNat ≤ s.capacity) (b : Space) :
    s.bufferWidth b * s.bufferHeight b ≤ s.spaceSize b := by
  cases b with
  | src => exact hfit
  | dst =>
    calc 2 * s.width.toNat * (2 * s.height.toNat)
      _ = 4 * (s.width.toNat * s.height.toNat) := by ring
      _ ≤ 4 * s.capacity := Nat.mul_le_mul_left 4 hfit

theorem State.buffer_pos (hw : 1 ≤ s.width.toNat) (hh : 1 ≤ s.height.toNat) (b : Space) :
    1 ≤ s.bufferWidth b ∧ 1 ≤ s.bufferHeight b := by
  cases b with
  | src => exact ⟨hw, hh⟩
  | dst => exact ⟨Nat.mul_pos two_pos hw, Nat.mul_pos two_pos hh⟩

/-- Coordinates inside the image name a position the image has; its samples lie inside the memory they are read from (R177). -/
theorem State.gatherIndex_lt_spaceSize {x y : BitVec 20} (hok : s.pixelOk x y = true)
    (hfit : s.width.toNat * s.height.toNat ≤ s.capacity) (pat : Pattern) (i j : Fin 4) :
    gatherIndex pat (s.bufferWidth (bufferOf pat)) (s.bufferHeight (bufferOf pat)) x.toNat y.toNat i j <
      s.spaceSize (bufferOf pat) := by
  obtain ⟨hx, hy⟩ := (s.pixelOk_iff x y).1 hok
  obtain ⟨hw, hh⟩ := State.buffer_pos (s := s) (by omega) (by omega) (bufferOf pat)
  exact (gatherIndex_lt hw hh pat x.toNat y.toNat i j).trans_le (State.buffer_le_spaceSize hfit (bufferOf pat))

theorem State.gatherInRange_of_pixelOk {x y : BitVec 20} (hok : s.pixelOk x y = true)
    (hfit : s.width.toNat * s.height.toNat ≤ s.capacity) (pat : Pattern) : s.gatherInRange pat x.toNat y.toNat = true := by
  simp [State.gatherInRange, gatherIndices, State.gatherIndex_lt_spaceSize hok hfit]

/-- An output cell of an image that fits lies inside DST (R46, R73). -/
theorem State.cellIndex_lt_spaceSize {x y : Nat} (hx : x < s.outWidth) (hy : y < s.outHeight)
    (hfit : s.width.toNat * s.height.toNat ≤ s.capacity) : s.cellIndex x y < s.spaceSize .dst :=
  calc y * s.outWidth + x
    _ = s.outWidth * y + x := by rw [Nat.mul_comm]
    _ < s.outHeight * s.outWidth := Nat.mul_add_lt_mul_of_lt_of_lt hy hx
    _ = s.outWidth * s.outHeight := Nat.mul_comm _ _
    _ ≤ s.spaceSize .dst := State.buffer_le_spaceSize hfit .dst

/-- Even coordinates inside the image name a block whose four cells lie inside it (R111). -/
theorem State.blockOk_cells {x y : BitVec 20} (hok : s.blockOk x y = true) :
    x.toNat < s.outWidth ∧ x.toNat + 1 < s.outWidth ∧ y.toNat < s.outHeight ∧ y.toNat + 1 < s.outHeight := by
  obtain ⟨hxeven, hyeven, hx, hy⟩ := (s.blockOk_iff x y).1 hok
  unfold State.outWidth State.outHeight
  omega

theorem State.pixelOk_of_blockOk {x y : BitVec 20} (hok : s.blockOk x y = true) : s.pixelOk x y = true :=
  have ⟨_, _, hx, hy⟩ := (s.blockOk_iff x y).1 hok
  (s.pixelOk_iff x y).2 ⟨hx, hy⟩

end Sys2Proof.Machine
end

section
/-! PROOFS. The step operations on an image that fits complete, and those with an access beyond memory fault; CORE issues the
former only (20_memory.md R74, 44_passes.md R270; log 11). -/

namespace Sys2Proof.Machine

variable {s : State}

/-- P1_BLK on an image that fits completes with the writes of its four cells (R251). -/
theorem exec_p1Blk_fits {x y : BitVec 20} (hok : s.blockOk x y = true)
    (hfit : s.width.toNat * s.height.toNat ≤ s.capacity) :
    exec (.p1Blk x y) s = .next (s.dstWrites
      [(s.cellIndex x.toNat y.toNat, s.srcRead (y.toNat / 2 * s.width.toNat + x.toNat / 2)),
       (s.cellIndex (x.toNat + 1) y.toNat, s.srcRead (y.toNat / 2 * s.width.toNat + x.toNat / 2)),
       (s.cellIndex x.toNat (y.toNat + 1), s.srcRead (y.toNat / 2 * s.width.toNat + x.toNat / 2)),
       (s.cellIndex (x.toNat + 1) (y.toNat + 1), s.newPixel .p1 wpFull wab12 x.toNat y.toNat)]) := by
  obtain ⟨hx, hx', hy, hy'⟩ := State.blockOk_cells hok
  refine runStep_eq_next hok (State.gatherInRange_of_pixelOk (State.pixelOk_of_blockOk hok) hfit .p1) ?_
  simp [State.cellIndex_lt_spaceSize, hx, hx', hy, hy', hfit]

/-- P2_TR on an image that fits completes with the write of its top-right cell (R253). -/
theorem exec_p2Tr_fits {x y : BitVec 20} (hok : s.blockOk x y = true)
    (hfit : s.width.toNat * s.height.toNat ≤ s.capacity) :
    exec (.p2Tr x y) s = .next (s.dstWrites
      [(s.cellIndex (x.toNat + 1) y.toNat, s.newPixel .p2a wpP2 wab34 x.toNat y.toNat)]) := by
  obtain ⟨_, hx', hy, _⟩ := State.blockOk_cells hok
  refine runStep_eq_next hok (State.gatherInRange_of_pixelOk (State.pixelOk_of_blockOk hok) hfit .p2a) ?_
  simpa using State.cellIndex_lt_spaceSize hx' hy hfit

/-- P2_BL on an image that fits completes with the write of its bottom-left cell (R254). -/
theorem exec_p2Bl_fits {x y : BitVec 20} (hok : s.blockOk x y = true)
    (hfit : s.width.toNat * s.height.toNat ≤ s.capacity) :
    exec (.p2Bl x y) s = .next (s.dstWrites
      [(s.cellIndex x.toNat (y.toNat + 1), s.newPixel .p2b wpP2 wab34 x.toNat y.toNat)]) := by
  obtain ⟨hx, _, _, hy'⟩ := State.blockOk_cells hok
  refine runStep_eq_next hok (State.gatherInRange_of_pixelOk (State.pixelOk_of_blockOk hok) hfit .p2b) ?_
  simpa using State.cellIndex_lt_spaceSize hx hy' hfit

/-- P3_PX on an image that fits completes with the write of its pixel (R256). -/
theorem exec_p3Px_fits {x y : BitVec 20} (hok : s.pixelOk x y = true)
    (hfit : s.width.toNat * s.height.toNat ≤ s.capacity) :
    exec (.p3Px x y) s = .next (s.dstWrites
      [(s.cellIndex x.toNat y.toNat, s.newPixel .p3 wpFull wab12 x.toNat y.toNat)]) := by
  obtain ⟨hx, hy⟩ := (s.pixelOk_iff x y).1 hok
  refine runStep_eq_next hok (State.gatherInRange_of_pixelOk hok hfit .p3) ?_
  simpa using State.cellIndex_lt_spaceSize hx hy hfit

/-- The step operation CORE issues is that of the pass, at the step pointer, and PHASE is not IDLE (R270). -/
theorem State.issue_cases {i : Instr} (hi : s.issue = some i) :
    (s.phase = .p1 ∧ i = .p1Blk s.sp.x s.sp.y) ∨
    (s.phase = .p2 ∧ (i = .p2Tr s.sp.x s.sp.y ∨ i = .p2Bl s.sp.x s.sp.y)) ∨
    (s.phase = .p3 ∧ i = .p3Px s.sp.x s.sp.y) := by
  unfold State.issue at hi
  split at hi <;> simp_all

/-- In a state of the invariant the step operation that CORE issues has legal coordinates (R111, R270). -/
theorem State.Inv.issue_cases {i : Instr} (h : s.Inv) (hi : s.issue = some i) :
    (s.blockOk s.sp.x s.sp.y = true ∧
      (i = .p1Blk s.sp.x s.sp.y ∨ i = .p2Tr s.sp.x s.sp.y ∨ i = .p2Bl s.sp.x s.sp.y)) ∨
    (s.pixelOk s.sp.x s.sp.y = true ∧ i = .p3Px s.sp.x s.sp.y) := by
  rcases State.issue_cases hi with ⟨hp, hi⟩ | ⟨hp, hi⟩ | ⟨hp, hi⟩
  · exact .inl ⟨State.pointerOk_of_block (.inl hp) ▸ h.run.pointer, .inl hi⟩
  · exact .inl ⟨State.pointerOk_of_block (.inr hp) ▸ h.run.pointer, .inr hi⟩
  · exact .inr ⟨State.pointerOk_of_pixel hp ▸ h.run.pointer, hi⟩

/-- CORE issues during a run only, whose image fits SRC (R303, R321). -/
theorem State.Inv.fits_of_issue {i : Instr} (h : s.Inv) (hi : s.issue = some i) :
    s.width.toNat * s.height.toNat ≤ s.capacity := by
  have hb : s.busy = true := (State.busy_eq s).2 fun hp => by
    rcases State.issue_cases hi with ⟨hp', _⟩ | ⟨hp', _⟩ | ⟨hp', _⟩ <;> cases hp.symm.trans hp'
  obtain ⟨_, _, _, hfit⟩ := s.configOk_iff.1 (h.run.config hb)
  exact hfit

/-- The step operation that CORE issues completes (R74). -/
theorem State.Inv.exec_issue {i : Instr} (h : s.Inv) (hi : s.issue = some i) : ∃ t, Machine.exec i s = .next t := by
  have hfit := h.fits_of_issue hi
  rcases h.issue_cases hi with ⟨hok, rfl | rfl | rfl⟩ | ⟨hok, rfl⟩
  · exact ⟨_, exec_p1Blk_fits hok hfit⟩
  · exact ⟨_, exec_p2Tr_fits hok hfit⟩
  · exact ⟨_, exec_p2Bl_fits hok hfit⟩
  · exact ⟨_, exec_p3Px_fits hok hfit⟩

/-- The step pointer of the operation that CORE issues lies inside the image (R252, R255, R257). -/
theorem State.Inv.pixelOk_of_issue {i : Instr} (h : s.Inv) (hi : s.issue = some i) :
    s.pixelOk s.sp.x s.sp.y = true := by
  rcases h.issue_cases hi with ⟨hok, _⟩ | ⟨hok, _⟩
  · exact State.pixelOk_of_blockOk hok
  · exact hok

/-- Settles O29: the four cells of P1_BLK, or the one of another step operation, are all its writes, so that an index beyond DST
or a gather beyond its memory makes the range check fail. -/
theorem stepBeyondMemoryFaults : Obligations.StepBeyondMemoryFaults := by
  refine fun s x y => ⟨fun hok h => ?_, fun hok h => ?_, fun hok h => ?_, fun hok h => ?_⟩
  · refine runStep_eq_fault hok (h.imp_right fun hcell => ?_)
    simp only [List.exists_mem_cons_iff, List.not_mem_nil, false_and, exists_false, or_false]
    exact hcell
  · exact runStep_eq_fault hok (h.imp_right fun hcell => ⟨_, List.mem_cons_self, hcell⟩)
  · exact runStep_eq_fault hok (h.imp_right fun hcell => ⟨_, List.mem_cons_self, hcell⟩)
  · exact runStep_eq_fault hok (h.imp_right fun hcell => ⟨_, List.mem_cons_self, hcell⟩)

end Sys2Proof.Machine
end

section
/-! PROOFS. The host port: reads have no side effect, and offsets beyond the memories are harmless (20_memory.md R74, R78). -/

namespace Sys2Proof.Machine

variable {s : State}

/-- SRC_RD beyond SRC reads 0 (R74, R293). -/
theorem exec_srcRd_beyond {off : BitVec 28} (h : s.capacity ≤ off.toNat) :
    exec (.srcRd off) s = .next { s with rdata := some 0#32 } := by
  simp only [exec, execSrcRd, if_neg (Nat.not_lt.2 h), State.respond]

/-- SRC_WR beyond SRC writes nothing (R74, R294). -/
theorem exec_srcWr_beyond {off : BitVec 28} (h : s.capacity ≤ off.toNat) (data : Word) :
    exec (.srcWr off data) s = .next { s with rdata := none } := by
  simp [exec, execSrcWr, Nat.not_lt.2 h, State.acknowledge]

/-- DST_RD beyond DST reads 0, in a run too (R74, R295). -/
theorem exec_dstRd_beyond {off : BitVec 28} (h : 4 * s.capacity ≤ off.toNat) :
    exec (.dstRd off) s = .next { s with rdata := some 0#32 } := by
  simp only [exec, execDstRd, if_pos h, State.respond]

/-- Settles O23: the host's range checks; and in a run the step pointer lies inside an image that fits SRC, so that the gather's
samples and the cells written do too. -/
theorem outOfRangeOffsetsAreHarmless : Obligations.OutOfRangeOffsetsAreHarmless :=
  ⟨fun _ _ => exec_srcRd_beyond, fun _ _ => exec_dstRd_beyond, fun _ _ data h => exec_srcWr_beyond h data,
    fun _ _ _ _ => rfl, fun _ _ h hi =>
      ⟨fun pat _ => State.gatherIndex_lt_spaceSize (h.pixelOk_of_issue hi) (h.fits_of_issue hi) pat, h.exec_issue hi⟩⟩

/-- WR = 0 decodes to one of the eight reads (R106, R108). -/
theorem decodeHostTx_of_read {w : BitVec 64} (hw : w.getLsbD 63 = false) : decodeHostTx w ∈
    [.regRd (txOffset w), .srcRd (txOffset w), .dstRd (txOffset w), .rsvdSpaceRd3 (txOffset w), .rsvdSpaceRd4 (txOffset w),
      .rsvdSpaceRd5 (txOffset w), .rsvdSpaceRd6 (txOffset w), .rsvdSpaceRd7 (txOffset w)] := by
  have htop : (txKind w).msb = false := by simpa [txKind, BitVec.msb_eq_getLsbD_last] using hw
  have hkind : (txKind w).toNat < 8 := by
    have := BitVec.toNat_lt_of_msb_false htop
    omega
  unfold decodeHostTx
  interval_cases (txKind w).toNat <;> simp

/-- Settles O22: of what an operation can do, a read is neither a REG_WR nor a SRC_WR nor a step operation. -/
theorem hostReadsHaveNoSideEffect : Obligations.HostReadsHaveNoSideEffect := by
  intro s t w hw ht
  have hread := decodeHostTx_of_read hw
  rcases exec_next_cases (i := decodeHostTx w) ht with ⟨_, _, hi, _⟩ | ⟨_, _, hi, _⟩ |
    ⟨⟨_, _, hi | hi | hi⟩ | ⟨_, _, hi⟩, _⟩ | hown
  case inr.inr.inr => exact hown
  all_goals simp [hi] at hread

end Sys2Proof.Machine
end

section
/-! PROOFS. The two code formats by their fields: each field read back from a word put together, each word put together again from
its fields, and the rows of OP 1 to 4 by the highest set reserved bit (30_encoding.md R104, R109, R111). -/

namespace Sys2Proof

@[simp] theorem txKind_append (k : BitVec 4) (off : BitVec 28) (data : Word) : txKind (k ++ off ++ data) = k :=
  (BitVec.extractLsb'_append_eq_of_le (by decide)).trans BitVec.extractLsb'_append_eq_left

@[simp] theorem txOffset_append (k : BitVec 4) (off : BitVec 28) (data : Word) : txOffset (k ++ off ++ data) = off :=
  (BitVec.extractLsb'_append_eq_of_le (by decide)).trans BitVec.extractLsb'_append_eq_right

@[simp] theorem txData_append (k : BitVec 4) (off : BitVec 28) (data : Word) : txData (k ++ off ++ data) = data :=
  BitVec.extractLsb'_append_eq_right

@[simp] theorem stepOp_append (op r : BitVec 4) (y x : BitVec 20) : stepOp (op ++ r ++ y ++ x) = op :=
  calc stepOp (op ++ r ++ y ++ x)
    _ = (op ++ r ++ y).extractLsb' 24 4 := BitVec.extractLsb'_append_eq_of_le (by decide)
    _ = (op ++ r).extractLsb' 4 4 := BitVec.extractLsb'_append_eq_of_le (by decide)
    _ = op := BitVec.extractLsb'_append_eq_left

@[simp] theorem stepReserved_append (op r : BitVec 4) (y x : BitVec 20) : stepReserved (op ++ r ++ y ++ x) = r :=
  calc stepReserved (op ++ r ++ y ++ x)
    _ = (op ++ r ++ y).extractLsb' 20 4 := BitVec.extractLsb'_append_eq_of_le (by decide)
    _ = (op ++ r).extractLsb' 0 4 := BitVec.extractLsb'_append_eq_of_le (by decide)
    _ = r := BitVec.extractLsb'_append_eq_right

@[simp] theorem stepY_append (op r : BitVec 4) (y x : BitVec 20) : stepY (op ++ r ++ y ++ x) = y :=
  (BitVec.extractLsb'_append_eq_of_le (by decide)).trans BitVec.extractLsb'_append_eq_right

@[simp] theorem stepX_append (op r : BitVec 4) (y x : BitVec 20) : stepX (op ++ r ++ y ++ x) = x :=
  BitVec.extractLsb'_append_eq_right

theorem txFields_append (w : BitVec 64) : txKind w ++ txOffset w ++ txData w = w :=
  calc txKind w ++ txOffset w ++ txData w
    _ = w.extractLsb' 32 32 ++ txData w :=
      congrArg (· ++ txData w) (BitVec.extractLsb'_append_extractLsb'_eq_extractLsb' rfl)
    _ = w := BitVec.extractLsb'_append_extractLsb' (w := 32) (len := 32)

theorem stepFields_append (w : BitVec 48) : stepOp w ++ stepReserved w ++ stepY w ++ stepX w = w :=
  calc stepOp w ++ stepReserved w ++ stepY w ++ stepX w
    _ = w.extractLsb' 40 8 ++ stepY w ++ stepX w :=
      congrArg (· ++ stepY w ++ stepX w) (BitVec.extractLsb'_append_extractLsb'_eq_extractLsb' rfl)
    _ = w.extractLsb' 20 28 ++ stepX w :=
      congrArg (· ++ stepX w) (BitVec.extractLsb'_append_extractLsb'_eq_extractLsb' rfl)
    _ = w := BitVec.extractLsb'_append_extractLsb' (w := 28) (len := 20)

/-- WR is the top bit of a HOSTTX's kind (R104). -/
theorem txKind_msb (w : BitVec 64) : (txKind w).msb = w.getLsbD 63 := by
  simp [txKind, BitVec.msb_eq_getLsbD_last]

/-- Clearing DATA keeps the other fields of a HOSTTX (R105). -/
theorem hostTx_clearData (w : BitVec 64) : w &&& 0xFFFFFFFF00000000#64 = txKind w ++ txOffset w ++ 0#32 := by
  conv_lhs => rw [← txFields_append w]
  rw [show 0xFFFFFFFF00000000#64 = BitVec.allOnes 4 ++ BitVec.allOnes 28 ++ 0#32 from by decide, Laws.and_append,
    Laws.and_append]
  simp only [BitVec.and_allOnes, BitVec.and_zero]

/-- The highest set reserved bit with the bits below it, or none (R111, R112). -/
theorem reserved_cases (r : BitVec 4) : (∃ low : BitVec 3, r = 0b1#1 ++ low) ∨ (∃ low : BitVec 2, r = 0b01#2 ++ low) ∨
    (∃ low : BitVec 1, r = 0b001#3 ++ low) ∨ r = 0b0001#4 ∨ r = 0#4 := by
  revert r
  decide

section
variable (clear b40 : Instr) (b43 : BitVec 3 → Instr) (b42 : BitVec 2 → Instr) (b41 : BitVec 1 → Instr)

@[simp] theorem splitReserved_b43 (low : BitVec 3) : splitReserved (0b1#1 ++ low) clear b43 b42 b41 b40 = b43 low := by
  have hbit : ∀ low : BitVec 3, (0b1#1 ++ low : BitVec 4).getLsbD 3 = true := by decide
  rw [splitReserved, if_pos (hbit low), BitVec.extractLsb'_append_eq_right]

@[simp] theorem splitReserved_b42 (low : BitVec 2) : splitReserved (0b01#2 ++ low) clear b43 b42 b41 b40 = b42 low := by
  have hbits : ∀ low : BitVec 2, (0b01#2 ++ low : BitVec 4).getLsbD 3 = false ∧
      (0b01#2 ++ low : BitVec 4).getLsbD 2 = true := by decide
  simp only [splitReserved, hbits, BitVec.extractLsb'_append_eq_right, if_true, Bool.false_eq_true, if_false]

@[simp] theorem splitReserved_b41 (low : BitVec 1) : splitReserved (0b001#3 ++ low) clear b43 b42 b41 b40 = b41 low := by
  have hbits : ∀ low : BitVec 1, (0b001#3 ++ low : BitVec 4).getLsbD 3 = false ∧
      (0b001#3 ++ low : BitVec 4).getLsbD 2 = false ∧ (0b001#3 ++ low : BitVec 4).getLsbD 1 = true := by decide
  simp only [splitReserved, hbits, BitVec.extractLsb'_append_eq_right, if_true, Bool.false_eq_true, if_false]

@[simp] theorem splitReserved_b40 : splitReserved 0b0001#4 clear b43 b42 b41 b40 = b40 := rfl

@[simp] theorem splitReserved_clear : splitReserved 0#4 clear b43 b42 b41 b40 = clear := rfl

end

end Sys2Proof
end

section
/-! PROOFS. Encoding and decoding undo each other on both formats (30_encoding.md R104 to R112). -/

namespace Sys2Proof

/-- The decoder reads the fields the encoder has put together; `BitVec.reduceAppend` would fold fixed fields into one numeral. -/
theorem decode_encode (i : Instr) : decode (encode i) = i := by
  cases i with
  | regRd | srcRd | dstRd | rsvdSpaceRd3 | rsvdSpaceRd4 | rsvdSpaceRd5 | rsvdSpaceRd6 | rsvdSpaceRd7
  | regWr | srcWr | dstWr | rsvdSpaceWr3 | rsvdSpaceWr4 | rsvdSpaceWr5 | rsvdSpaceWr6 | rsvdSpaceWr7 =>
    simp [encode, hostTxWord, decode, decodeHostTx]
  | _ => simp [encode, stepWord, decode, decodeStepDesc, -BitVec.reduceAppend]

/-- Settles O1: the round trip of every row. -/
theorem decodeInvertsEncode : Obligations.DecodeInvertsEncode := decode_encode

theorem encode_and_decode {i : Instr} {c : Code} (h : encode i = c) : encode i = c ∧ decode c = i :=
  ⟨h, h ▸ decode_encode i⟩

/-- When five rows encode with one OP and their own reserved bits, the row that the split picks carries the split bits (R111). -/
theorem encode_splitReserved {op : BitVec 4} {x y : BitVec 20} {clear b40 : Instr} {b43 : BitVec 3 → Instr}
    {b42 : BitVec 2 → Instr} {b41 : BitVec 1 → Instr}
    (h43 : ∀ low, encode (b43 low) = stepWord op (0b1#1 ++ low) x y)
    (h42 : ∀ low, encode (b42 low) = stepWord op (0b01#2 ++ low) x y)
    (h41 : ∀ low, encode (b41 low) = stepWord op (0b001#3 ++ low) x y)
    (h40 : encode b40 = stepWord op 0b0001#4 x y) (hclear : encode clear = stepWord op 0#4 x y) (r : BitVec 4) :
    encode (splitReserved r clear b43 b42 b41 b40) = stepWord op r x y := by
  rcases reserved_cases r with ⟨low, rfl⟩ | ⟨low, rfl⟩ | ⟨low, rfl⟩ | rfl | rfl
  · rw [splitReserved_b43, h43]
  · rw [splitReserved_b42, h42]
  · rw [splitReserved_b41, h41]
  · rw [splitReserved_b40, h40]
  · rw [splitReserved_clear, hclear]

/-- The twelve reserved OPs have one row each; OP 1 to 4 are split by their reserved bits (R110, R111). -/
theorem encode_decodeStepDesc (w : BitVec 48) :
    encode (decodeStepDesc w) = stepWord (stepOp w) (stepReserved w) (stepX w) (stepY w) := by
  unfold decodeStepDesc
  generalize stepOp w = op
  fin_cases op
  any_goals rfl
  all_goals exact encode_splitReserved (fun _ => rfl) (fun _ => rfl) (fun _ => rfl) rfl rfl _

/-- A HOSTTX keeps its kind and OFFSET, and a write its DATA (R105, R106). -/
theorem encode_decodeHostTx (w : BitVec 64) : encode (decodeHostTx w) =
    hostTxWord (txKind w) (txOffset w) (if (txKind w).msb then txData w else 0#32) := by
  unfold decodeHostTx
  generalize txKind w = k
  fin_cases k <;> rfl

/-- Settles O2: the encoding of a decoded word carries the word's own fields, but for the DATA of a read. -/
theorem encodeInvertsDecode : Obligations.EncodeInvertsDecode := by
  refine ⟨fun w => ?_, fun w hw => ?_, fun w hw => ?_⟩
  · rw [decode, encode_decodeStepDesc, stepWord, stepFields_append]
  · rw [decode, encode_decodeHostTx, txKind_msb, if_pos hw, hostTxWord, txFields_append]
  · rw [decode, encode_decodeHostTx, txKind_msb, hw, if_neg Bool.false_ne_true, hostTxWord, hostTx_clearData]

/-- A read ignores DATA: whatever it is, the word decodes to the read that is encoded with DATA 0 (R105). -/
theorem decode_read {k : BitVec 4} {off : BitVec 28} {i : Instr} (hk : k.msb = false) (hi : encode i = hostTxWord k off 0#32)
    (data : Word) : decode (hostTxWord k off data) = i :=
  calc decode (hostTxWord k off data)
    _ = decode (encode (decodeHostTx (k ++ off ++ data))) := (decode_encode _).symm
    _ = decode (encode i) := by simp [encode_decodeHostTx, hk, hi]
    _ = i := decode_encode i

/-- Settles O3: the eight reads decode whatever their DATA, and the eight writes listed are encodings. -/
theorem hostTxRowsByDirectionAndSpace : Obligations.HostTxRowsByDirectionAndSpace := by
  intro off data
  exact ⟨decode_read rfl rfl data, decode_read rfl rfl data, decode_read rfl rfl data, decode_read rfl rfl data,
    decode_read rfl rfl data, decode_read rfl rfl data, decode_read rfl rfl data, decode_read rfl rfl data,
    decode_encode (.regWr off data), decode_encode (.srcWr off data), decode_encode (.dstWr off data),
    decode_encode (.rsvdSpaceWr3 off data), decode_encode (.rsvdSpaceWr4 off data), decode_encode (.rsvdSpaceWr5 off data),
    decode_encode (.rsvdSpaceWr6 off data), decode_encode (.rsvdSpaceWr7 off data)⟩

/-- Settles O4: every word listed is the encoding of its row's operation, so that the round trip reads the row back. -/
theorem stepRowsByOpcodeAndReservedBits : Obligations.StepRowsByOpcodeAndReservedBits := by
  intro x y r l3 l2 l1
  exact ⟨decode_encode (.p1Blk x y), decode_encode (.rsvdP1BlkB43 l3 x y), decode_encode (.rsvdP1BlkB42 l2 x y),
    decode_encode (.rsvdP1BlkB41 l1 x y), decode_encode (.rsvdP1BlkB40 x y),
    decode_encode (.p2Tr x y), decode_encode (.rsvdP2TrB43 l3 x y), decode_encode (.rsvdP2TrB42 l2 x y),
    decode_encode (.rsvdP2TrB41 l1 x y), decode_encode (.rsvdP2TrB40 x y),
    decode_encode (.p2Bl x y), decode_encode (.rsvdP2BlB43 l3 x y), decode_encode (.rsvdP2BlB42 l2 x y),
    decode_encode (.rsvdP2BlB41 l1 x y), decode_encode (.rsvdP2BlB40 x y),
    decode_encode (.p3Px x y), decode_encode (.rsvdP3PxB43 l3 x y), decode_encode (.rsvdP3PxB42 l2 x y),
    decode_encode (.rsvdP3PxB41 l1 x y), decode_encode (.rsvdP3PxB40 x y),
    decode_encode (.rsvdOp0 r x y), decode_encode (.rsvdOp5 r x y), decode_encode (.rsvdOp6 r x y),
    decode_encode (.rsvdOp7 r x y), decode_encode (.rsvdOp8 r x y), decode_encode (.rsvdOp9 r x y),
    decode_encode (.rsvdOpA r x y), decode_encode (.rsvdOpB r x y), decode_encode (.rsvdOpC r x y),
    decode_encode (.rsvdOpD r x y), decode_encode (.rsvdOpE r x y), decode_encode (.rsvdOpF r x y)⟩

/-- Settles O5: each word is the value of the encoder, and the round trip decodes it. -/
theorem encodingExamplesOfTheSpec : Obligations.EncodingExamplesOfTheSpec :=
  ⟨encode_and_decode rfl, encode_and_decode rfl, encode_and_decode rfl, encode_and_decode rfl, encode_and_decode rfl,
    encode_and_decode rfl, encode_and_decode rfl, encode_and_decode rfl⟩

end Sys2Proof
end

section
/-! PROOFS. What a decoded word does: a HOSTTX completes, a reserved or ill-formed STEP descriptor is refused, and a placed word is
what the next step runs (30_encoding.md R107, R108, R111; log 15). -/

namespace Sys2Proof.Machine

variable {s : State}

/-- DST_RD returns a word on each of its three paths (R295). -/
theorem exec_dstRd_responds (s : State) (off : BitVec 28) :
    ∃ t, exec (.dstRd off) s = .next t ∧ t.rdata.isSome = true := by
  refine ⟨_, rfl, ?_⟩
  split_ifs <;> rfl

/-- Each of the sixteen rows completes; those of WR = 0 return a word, those of WR = 1 none (R106, R107). -/
theorem exec_decodeHostTx (s : State) (w : BitVec 64) :
    ∃ t, exec (decodeHostTx w) s = .next t ∧ t.rdata.isSome = !(txKind w).msb := by
  unfold decodeHostTx
  generalize txKind w = k
  fin_cases k
  any_goals exact ⟨_, rfl, rfl⟩
  exact exec_dstRd_responds s _

/-- Settles O21: the top bit of the kind is WR. -/
theorem everyHostTransactionCompletes : Obligations.EveryHostTransactionCompletes := by
  intro s w
  obtain ⟨t, ht, hr⟩ := exec_decodeHostTx s w
  rw [txKind_msb] at hr
  refine ⟨t, ht, fun hread => ?_, fun hwrite => ?_⟩
  · exact Option.isSome_iff_exists.1 (by rw [hr, hread]; rfl)
  · exact Option.not_isSome_iff_eq_none.1 (by rw [hr, hwrite]; decide)

theorem runStep_eq_refused {ok : Bool} {pat : Pattern} {x y : Nat} {ws : List (Nat × Word)} (h : ok = false) :
    runStep s ok pat x y ws = .refused .illFormedStep := by
  simp [runStep, h]

theorem State.blockOk_eq_false {x y : BitVec 20} (h : x.toNat % 2 = 1 ∨ y.toNat % 2 = 1 ∨ 2 * s.width.toNat ≤ x.toNat ∨
    2 * s.height.toNat ≤ y.toNat) : s.blockOk x y = false := by
  rw [← Bool.not_eq_true, s.blockOk_iff]
  omega

theorem State.pixelOk_eq_false {x y : BitVec 20} (h : 2 * s.width.toNat ≤ x.toNat ∨ 2 * s.height.toNat ≤ y.toNat) :
    s.pixelOk x y = false := by
  rw [← Bool.not_eq_true, s.pixelOk_iff]
  omega

/-- Settles O28: the meaning of each reserved row is the refusal, the coordinate check stands before every access, and under the
invariant the step pointer passes it. -/
theorem reservedAndIllFormedDescriptorsRefused : Obligations.ReservedAndIllFormedDescriptorsRefused := by
  refine ⟨fun s x y r l3 l2 l1 => ?_, fun s x y => ⟨fun h => ?_, fun h => ?_⟩, fun s i hinv hi => ?_⟩
  · and_intros <;> rfl
  · have hok := State.blockOk_eq_false h
    exact ⟨runStep_eq_refused hok, runStep_eq_refused hok, runStep_eq_refused hok⟩
  · exact runStep_eq_refused (State.pixelOk_eq_false h)
  · exact (hinv.issue_cases hi).imp (fun ⟨hok, hi⟩ => ⟨_, _, hi, hok⟩) fun ⟨hok, hi⟩ => ⟨_, _, hi, hok⟩

theorem step_placeHostTx (s : State) (w : BitVec 64) : step (s.placeHostTx w) = exec (decode (.hostTx w)) s := rfl

/-- A descriptor that is not well formed goes to the model's own stream, ahead of the turns to come (log 15). -/
theorem step_placeStepDesc_of_not_wf {w : BitVec 48} (h : (decode (.stepDesc w)).wf = false) (s : State) :
    step (s.placeStepDesc w) = exec (decode (.stepDesc w)) s := by
  have hplace : s.placeStepDesc w = { s with inputs := .desc w :: s.inputs } := if_neg (Bool.eq_false_iff.1 h)
  rw [hplace]
  rfl

theorem State.withFetchWord_hostTx (s : State) (w : BitVec 64) : s.withFetchWord 64 w.toNat = s.placeHostTx w := by
  simp [State.withFetchWord]

theorem State.withFetchWord_stepDesc (s : State) (w : BitVec 48) : s.withFetchWord 48 w.toNat = s.placeStepDesc w := by
  simp [State.withFetchWord]

/-- Settles O7: a placed word is the next turn, and fetching it restores the turns to come. -/
theorem withFetchWordRunsTheWord : Obligations.WithFetchWordRunsTheWord := by
  refine ⟨fun s w => ?_, fun s w hw => ?_⟩
  · rw [s.withFetchWord_hostTx, step_placeHostTx]
  · rw [s.withFetchWord_stepDesc, step_placeStepDesc_of_not_wf hw]

end Sys2Proof.Machine
end

section
/-! PROOFS. The pixel word by its channels (30_encoding.md R101 to R103). -/

namespace Sys2Proof.Machine

theorem toNat_append_eq_add {m n : Nat} (x : BitVec m) (y : BitVec n) : (x ++ y).toNat = x.toNat * 2 ^ n + y.toNat := by
  rw [BitVec.toNat_append, ← Nat.shiftLeft_add_eq_or_of_lt y.isLt, Nat.shiftLeft_eq]

/-- The four channels stand in bytes 3 to 0 (R103). -/
theorem pack_toNat {r g b a : Nat} (hr : r ≤ 255) (hg : g ≤ 255) (hb : b ≤ 255) (ha : a ≤ 255) :
    (pack r g b a).toNat = a * 2 ^ 24 + b * 2 ^ 16 + g * 2 ^ 8 + r := by
  simp only [pack, toNat_append_eq_add, BitVec.toNat_ofNat]
  omega

/-- A channel is a byte of the pixel word (R102). -/
theorem channelOf_eq_byte (p : Word) : channelOf .r p = p.toNat % 2 ^ 8 ∧ channelOf .g p = p.toNat / 2 ^ 8 % 2 ^ 8 ∧
    channelOf .b p = p.toNat / 2 ^ 16 % 2 ^ 8 ∧ channelOf .a p = p.toNat / 2 ^ 24 % 2 ^ 8 := by
  simp [channelOf, Nat.shiftRight_eq_div_pow]

/-- Settles O43: packing and the channels are the digits of the pixel word to base 256. -/
theorem pixelPackingLaws : Obligations.PixelPackingLaws := by
  refine ⟨fun r g b a hr hg hb ha => ?_, fun p => ?_⟩
  · have hpack := pack_toNat hr hg hb ha
    have hbytes := channelOf_eq_byte (pack r g b a)
    omega
  · have hbytes := channelOf_eq_byte p
    refine BitVec.eq_of_toNat_eq ?_
    rw [pack_toNat (by omega) (by omega) (by omega) (by omega)]
    omega

end Sys2Proof.Machine
end

section
/-! PROOFS. The primitives: the coordinate clamp, the constants, the luma's corner values and the luma difference
(40_primitives.md R140, R142, R147, R148). -/

namespace Sys2Proof.Machine

theorem cclamp_of_neg {n : Nat} (hn : 1 ≤ n) {v : Int} (h : v < 0) : cclamp v n = 0 := by
  unfold cclamp clampValue
  omega

/-- Beyond the last coordinate the border is replicated (R142). -/
theorem cclamp_of_last_lt {n : Nat} (hn : 1 ≤ n) {v : Int} (h : (n : Int) - 1 < v) : cclamp v n = (n : Int) - 1 := by
  unfold cclamp clampValue
  omega

theorem cclamp_eq_self {n : Nat} {v : Int} (h0 : 0 ≤ v) (hlast : v ≤ (n : Int) - 1) : cclamp v n = v := by
  unfold cclamp clampValue
  omega

/-- Settles O30: the clamp's three cases, and with one coordinate its range is a point. -/
theorem coordinateClampCorners : Obligations.CoordinateClampCorners := by
  intro n v hn
  refine ⟨cclamp_bounds hn v, cclamp_of_neg hn, cclamp_of_last_lt hn, cclamp_eq_self, fun hone => ?_⟩
  obtain ⟨hlow, hhigh⟩ := cclamp_bounds hn v
  omega

theorem toBits_lit_lumaCoefficients :
    (F64.lit 2126 4).toBits = cR ∧ (F64.lit 7152 4).toBits = cG ∧ (F64.lit 722 4).toBits = cB := by decide +kernel

/-- The pair (w1, w2): a literal with its sign changed, the literal plus one half, and their sum (R226). -/
theorem wab12_of_lit :
    (F64.ofBits w1).units = -(F64.lit 129633 6).units ∧ ((F64.lit 129633 6).add (F64.lit 5 1)).toBits = w2 ∧
    (F64.ofBits w1).add (F64.ofBits w2) = F64.lit 5 1 := by decide +kernel

/-- The pair (w3, w4), likewise (R226). -/
theorem wab34_of_lit :
    (F64.ofBits w3).units = -(F64.lit 175068 6).units ∧ ((F64.lit 175068 6).add (F64.lit 5 1)).toBits = w4 ∧
    (F64.ofBits w3).add (F64.ofBits w4) = F64.lit 5 1 := by decide +kernel

theorem wpFull_weights :
    [wpFull.w0, wpFull.w1, wpFull.w2, wpFull.w3, wpFull.w4, wpFull.w5].map F64.ofBits = [2, 1, -1, 4, -1, 1].map F64.ofInt := by
  decide +kernel

theorem wpP2_weights :
    [wpP2.w0, wpP2.w1, wpP2.w2, wpP2.w3, wpP2.w4, wpP2.w5].map F64.ofBits = [2, 0, 0, 0, 0, 0].map F64.ofInt := by
  decide +kernel

/-- Settles O36: the literals by evaluation, the pass assignment by definition. -/
theorem constantsAreTheRoundedLiterals : Obligations.ConstantsAreTheRoundedLiterals := by
  obtain ⟨hneg12, hhalf12, hsum12⟩ := wab12_of_lit
  obtain ⟨hneg34, hhalf34, hsum34⟩ := wab34_of_lit
  exact ⟨toBits_lit_lumaCoefficients, hneg12, hhalf12, hneg34, hhalf34, hsum12, hsum34, ⟨rfl, rfl, rfl⟩, ⟨rfl, rfl, rfl⟩,
    wpFull_weights, wpP2_weights⟩

theorem luma_black : luma 0 0 0 = F64.ofInt 0 := by decide +kernel

/-- The luma of white rounds to just below 255 (R148). -/
theorem toBits_luma_white : (luma 255 255 255).toBits = 0x406FDFFFFFFFFFFF#64 := by decide +kernel

theorem toBits_luma_units :
    (luma 1 0 0).toBits = cR ∧ (luma 0 1 0).toBits = cG ∧ (luma 0 0 1).toBits = cB := by decide +kernel

theorem toBits_luma_primaries :
    (luma 255 0 0).toBits = 0x404B1B4395810625#64 ∧ (luma 0 255 0).toBits = 0x4066CC083126E978#64 ∧
    (luma 0 0 255).toBits = 0x403269374BC6A7F0#64 := by decide +kernel

/-- Settles O37: each listed value by evaluation. -/
theorem lumaCornerValues : Obligations.LumaCornerValues := by
  obtain ⟨hr, hg, hb⟩ := toBits_luma_units
  obtain ⟨hred, hgreen, hblue⟩ := toBits_luma_primaries
  exact ⟨luma_black, hr, hg, hb, hred, hgreen, hblue, toBits_luma_white, by decide +kernel⟩

theorem F64.sub_units_swap (a b : F64) : (a.sub b).units = -(b.sub a).units := by
  rw [F64.sub, F64.sub, ← F64.round_neg, neg_sub]

theorem df_units (a b : F64) : (df a b).units = ((a.sub b).units.natAbs : Int) := rfl

theorem df_comm (a b : F64) : df a b = df b a := by
  rw [F64.mk.injEq, df_units, df_units, F64.sub_units_swap, Int.natAbs_neg]

@[simp] theorem df_self (a : F64) : df a a = F64.ofInt 0 := by
  rw [F64.mk.injEq, df_units, F64.sub, sub_self, F64.round_zero]
  exact (zero_mul _).symm

theorem df_nonneg (a b : F64) : 0 ≤ (df a b).units := Int.natCast_nonneg _

/-- Settles O35: the rounding of a difference is odd, and the rounding of 0 is 0. -/
theorem lumaDifferenceLaws : Obligations.LumaDifferenceLaws :=
  fun a b => ⟨df_units a b, df_comm a b, df_self a, df_nonneg a b⟩

end Sys2Proof.Machine
end

section
/-! PROOFS. The ranges of the datapath by interval arithmetic: each rounded operation is monotone, so the ends of a range are the
values at the ends of the operands' ranges (40_primitives.md R146). -/

namespace Sys2Proof.Machine

/-- Rounding is monotone: nearest values to `n < m` in the wrong order would both be nearer to the other one's argument. -/
theorem F64.round_mono {n m : Int} (s : Nat) (h : n ≤ m) : (F64.round n s).units ≤ (F64.round m s).units := by
  rcases h.eq_or_lt with rfl | hlt
  · rfl
  · obtain ⟨hrepn, hnearn⟩ := F64.round_isNearestEven n s
    obtain ⟨hrepm, hnearm⟩ := F64.round_isNearestEven m s
    have hn := (hnearn _ hrepm).1
    have hm := (hnearm _ hrepn).1
    by_contra hgt
    have hscaled := mul_lt_mul_of_pos_right (not_le.1 hgt) (pow_pos (two_pos (α := Int)) s)
    omega

/-- The value lies between two binary64 values, both included. -/
def F64.Between (lo a hi : F64) : Prop := lo.units ≤ a.units ∧ a.units ≤ hi.units

namespace F64.Between

variable {a b c lo hi lo' hi' : F64}

theorem widen (h : Between lo a hi) (hlo : lo'.units ≤ lo.units) (hhi : hi.units ≤ hi'.units) : Between lo' a hi' :=
  ⟨hlo.trans h.1, h.2.trans hhi⟩

theorem add (ha : Between lo a hi) (hb : Between lo' b hi') : Between (lo.add lo') (a.add b) (hi.add hi') :=
  ⟨F64.round_mono 0 (add_le_add ha.1 hb.1), F64.round_mono 0 (add_le_add ha.2 hb.2)⟩

theorem sub (ha : Between lo a hi) (hb : Between lo' b hi') : Between (lo.sub hi') (a.sub b) (hi.sub lo') :=
  ⟨F64.round_mono 0 (sub_le_sub ha.1 hb.2), F64.round_mono 0 (sub_le_sub ha.2 hb.1)⟩

theorem mul_of_nonneg (ha : Between lo a hi) (hc : 0 ≤ c.units) : Between (c.mul lo) (c.mul a) (c.mul hi) :=
  ⟨F64.round_mono _ (mul_le_mul_of_nonneg_left ha.1 hc), F64.round_mono _ (mul_le_mul_of_nonneg_left ha.2 hc)⟩

/-- A factor that is not positive turns the bounds round. -/
theorem mul_of_nonpos (ha : Between lo a hi) (hc : c.units ≤ 0) : Between (c.mul hi) (c.mul a) (c.mul lo) :=
  ⟨F64.round_mono _ (mul_le_mul_of_nonpos_left ha.2 hc), F64.round_mono _ (mul_le_mul_of_nonpos_left ha.1 hc)⟩

end F64.Between

open F64 (Between)

/-- A channel is an 8-bit integer (R102). -/
theorem channelOf_le (c : Channel) (p : Word) : channelOf c p ≤ 255 := by
  cases c <;> exact Nat.le_of_lt_succ (BitVec.isLt _)

theorem ofInt_between_of_le {k m : Nat} (h : k ≤ m) : Between (F64.ofInt 0) (F64.ofInt k) (F64.ofInt m) :=
  ⟨mul_le_mul_of_nonneg_right (Int.natCast_nonneg k) (Int.natCast_nonneg _),
    mul_le_mul_of_nonneg_right (Int.ofNat_le.2 h) (Int.natCast_nonneg _)⟩

/-- The luma grows with each channel, so it lies between that of black and that of white (R146). -/
theorem luma_between {r g b : Nat} (hr : r ≤ 255) (hg : g ≤ 255) (hb : b ≤ 255) :
    Between (F64.ofInt 0) (luma r g b) (F64.ofInt 255) := by
  have hcoeff : 0 ≤ (F64.ofBits cR).units ∧ 0 ≤ (F64.ofBits cG).units ∧ 0 ≤ (F64.ofBits cB).units := by decide +kernel
  obtain ⟨hcR, hcG, hcB⟩ := hcoeff
  have hmono : Between (luma 0 0 0) (luma r g b) (luma 255 255 255) :=
    (((ofInt_between_of_le hr).mul_of_nonneg hcR).add ((ofInt_between_of_le hg).mul_of_nonneg hcG)).add
      ((ofInt_between_of_le hb).mul_of_nonneg hcB)
  exact hmono.widen (by rw [luma_black]) (by decide +kernel)

/-- The luma matrix holds values in [0, 255]. -/
def LumaInRange (y : Mat4 F64) : Prop := ∀ i j, Between (F64.ofInt 0) (y i j) (F64.ofInt 255)

theorem matricesOf_lumaInRange (p : Mat4 Word) : LumaInRange (matricesOf p).luma :=
  fun _ _ => luma_between (channelOf_le _ _) (channelOf_le _ _) (channelOf_le _ _)

section
variable {a b c d : F64} (ha : Between (F64.ofInt 0) a (F64.ofInt 255)) (hb : Between (F64.ofInt 0) b (F64.ofInt 255))
  (hc : Between (F64.ofInt 0) c (F64.ofInt 255)) (hd : Between (F64.ofInt 0) d (F64.ofInt 255))

include ha hb

theorem df_between : Between (F64.ofInt 0) (df a b) (F64.ofInt 255) := by
  have hends : (F64.ofInt 0).sub (F64.ofInt 255) = F64.ofInt (-255) ∧ (F64.ofInt 255).sub (F64.ofInt 0) = F64.ofInt 255 := by
    decide +kernel
  obtain ⟨hlo, hhi⟩ := ha.sub hb
  rw [hends.1] at hlo
  rw [hends.2] at hhi
  simp only [F64.Between, df_units, F64.ofInt] at *
  omega

/-- The range of the terms of two differences, A1, A2, A4 and A5 (R201). -/
theorem add_between_510 : Between (F64.ofInt 0) (a.add b) (F64.ofInt 510) :=
  (ha.add hb).widen (by decide +kernel) (by decide +kernel)

include hc hd

/-- The range of the term of four differences, A0 (R201). -/
theorem add_between_1020 : Between (F64.ofInt 0) (((a.add b).add c).add d) (F64.ofInt 1020) :=
  (((ha.add hb).add hc).add hd).widen (by decide +kernel) (by decide +kernel)

end

/-- The weighted sum, for either weight vector, is least at the lower ends of its terms of weight not negative and at the upper ends
of the others (R203, R205). -/
theorem weightedSum_between {wp : WeightVector} (hwp : wp = wpFull ∨ wp = wpP2) {t0 t1 t2 t3 t4 t5 : F64}
    (h0 : Between (F64.ofInt 0) t0 (F64.ofInt 1020)) (h1 : Between (F64.ofInt 0) t1 (F64.ofInt 510))
    (h2 : Between (F64.ofInt 0) t2 (F64.ofInt 510)) (h3 : Between (F64.ofInt 0) t3 (F64.ofInt 255))
    (h4 : Between (F64.ofInt 0) t4 (F64.ofInt 510)) (h5 : Between (F64.ofInt 0) t5 (F64.ofInt 510)) :
    Between (F64.ofInt (-1020)) (weightedSum wp t0 t1 t2 t3 t4 t5) (F64.ofInt 4080) := by
  have hsign : (0 ≤ (F64.ofBits wp.w0).units ∧ 0 ≤ (F64.ofBits wp.w1).units ∧ 0 ≤ (F64.ofBits wp.w3).units ∧
      0 ≤ (F64.ofBits wp.w5).units) ∧ (F64.ofBits wp.w2).units ≤ 0 ∧ (F64.ofBits wp.w4).units ≤ 0 := by
    rcases hwp with rfl | rfl <;> decide +kernel
  obtain ⟨⟨hw0, hw1, hw3, hw5⟩, hw2, hw4⟩ := hsign
  have hmono := (((((h0.mul_of_nonneg hw0).add (h1.mul_of_nonneg hw1)).add (h2.mul_of_nonpos hw2)).add
    (h3.mul_of_nonneg hw3)).add (h4.mul_of_nonpos hw4)).add (h5.mul_of_nonneg hw5)
  rcases hwp with rfl | rfl <;> exact hmono.widen (by decide +kernel) (by decide +kernel)

section
variable {wp : WeightVector} {y : Mat4 F64}

theorem dw1_between (hwp : wp = wpFull ∨ wp = wpP2) (hy : LumaInRange y) :
    Between (F64.ofInt (-1020)) (dw1 wp y) (F64.ofInt 4080) := by
  have hdf (i j k l : Fin 4) := df_between (hy i j) (hy k l)
  exact weightedSum_between hwp (add_between_1020 (hdf ..) (hdf ..) (hdf ..) (hdf ..)) (add_between_510 (hdf ..) (hdf ..))
    (add_between_510 (hdf ..) (hdf ..)) (hdf ..) (add_between_510 (hdf ..) (hdf ..)) (add_between_510 (hdf ..) (hdf ..))

theorem F64.add_comm (a b : F64) : a.add b = b.add a := by
  rw [F64.add, F64.add, Int.add_comm]

/-- The B terms are the A terms of the matrix mirrored in its second index (R201, R202). -/
theorem dw2_eq_dw1_mirror (wp : WeightVector) (y : Mat4 F64) : dw2 wp y = dw1 wp fun i j => y i j.rev := by
  have hB4 : edgeB4 y = edgeA4 fun i j => y i j.rev := F64.add_comm _ _
  rw [dw2, hB4]
  rfl

theorem dw2_between (hwp : wp = wpFull ∨ wp = wpP2) (hy : LumaInRange y) :
    Between (F64.ofInt (-1020)) (dw2 wp y) (F64.ofInt 4080) := by
  rw [dw2_eq_dw1_mirror]
  exact dw1_between hwp fun i j => hy i j.rev

theorem dEdge_between (hwp : wp = wpFull ∨ wp = wpP2) (hy : LumaInRange y) :
    Between (F64.ofInt (-5100)) (dEdge wp y) (F64.ofInt 5100) :=
  ((dw1_between hwp hy).sub (dw2_between hwp hy)).widen (by decide +kernel) (by decide +kernel)

end

/-- The corner weight is negative and the inner one positive: the blend falls with the corner sum and grows with the inner sum
(R221, R226). -/
theorem blend_between {wab : CoeffPair} (hwab : wab = wab12 ∨ wab = wab34) {corner inner : Nat} (hcorner : corner ≤ 510)
    (hinner : inner ≤ 510) : Between (F64.ofInt (-90)) (blend wab corner inner) (F64.ofInt 345) := by
  have hsign : (F64.ofBits wab.wa).units ≤ 0 ∧ 0 ≤ (F64.ofBits wab.wb).units := by
    rcases hwab with rfl | rfl <;> decide +kernel
  have hmono : Between (blend wab 510 0) (blend wab corner inner) (blend wab 0 510) :=
    ((ofInt_between_of_le hcorner).mul_of_nonpos hsign.1).add ((ofInt_between_of_le hinner).mul_of_nonneg hsign.2)
  rcases hwab with rfl | rfl <;> exact hmono.widen (by decide +kernel) (by decide +kernel)

theorem blendAcc_between (sel : Bool) {wab : CoeffPair} (hwab : wab = wab12 ∨ wab = wab34) {m : Mat4 Nat}
    (hm : ∀ i j, m i j ≤ 255) : Between (F64.ofInt (-90)) (blendAcc sel wab m) (F64.ofInt 345) := by
  have hsum (i j k l : Fin 4) : m i j + m k l ≤ 510 := add_le_add (hm i j) (hm k l)
  cases sel <;> exact blend_between hwab (hsum ..) (hsum ..)

/-- Settles O38: every stage of the datapath keeps its operands' ranges in its own. -/
theorem datapathValuesStayInRange : Obligations.DatapathValuesStayInRange := by
  intro p i j k l wp wab c sel hwp hwab
  have hy := matricesOf_lumaInRange p
  exact ⟨hy i j, df_between (hy i j) (hy k l), dw1_between hwp hy, dw2_between hwp hy, dEdge_between hwp hy,
    blendAcc_between sel hwab fun _ _ => channelOf_le c _⟩

end Sys2Proof.Machine
end

section
/-! PROOFS. The gather's geometry: every pattern's samples stay inside its buffer, and the lines of R176 are read off the offset
rules (41_gather.md R172 to R177). -/

namespace Sys2Proof.Machine

/-- Every sample's cell lies inside the buffer, whatever the offset rule (R177). -/
theorem gatherCell_bounds {bw bh : Nat} (hw : 1 ≤ bw) (hh : 1 ≤ bh) (pat : Pattern) (x y : Nat) (i j : Fin 4) :
    (0 ≤ (gatherCell pat bw bh x y i j).1 ∧ (gatherCell pat bw bh x y i j).1 ≤ (bw : Int) - 1) ∧
    0 ≤ (gatherCell pat bw bh x y i j).2 ∧ (gatherCell pat bw bh x y i j).2 ≤ (bh : Int) - 1 :=
  ⟨cclamp_bounds hw _, cclamp_bounds hh _⟩

/-- The output buffer holds four cells for each source pixel (R46, R177). -/
theorem State.dstBuffer_area (s : State) :
    s.bufferWidth .dst * s.bufferHeight .dst = 4 * (s.width.toNat * s.height.toNat) :=
  Nat.mul_mul_mul_comm 2 s.width.toNat 2 s.height.toNat

/-- Settles O31: the clamp bounds each coordinate, and so the index by the buffer's area: W * H for SRC and four times that for
DST. -/
theorem gatherIndicesStayInsideTheBuffer : Obligations.GatherIndicesStayInsideTheBuffer := by
  refine ⟨fun pat bw bh x y i j hw hh => ?_, fun s x y i j hw hh => ?_⟩
  · obtain ⟨⟨hcol, hcolLast⟩, hrow, hrowLast⟩ := gatherCell_bounds hw hh pat x y i j
    exact ⟨hcol, hcolLast, hrow, hrowLast, gatherIndex_lt hw hh pat x y i j⟩
  · obtain ⟨hdstW, hdstH⟩ := State.buffer_pos hw hh .dst
    rw [← s.dstBuffer_area]
    exact ⟨gatherIndex_lt hw hh .p1 x y i j, gatherIndex_lt hdstW hdstH .p2a x y i j,
      gatherIndex_lt hdstW hdstH .p2b x y i j, gatherIndex_lt hdstW hdstH .p3 x y i j⟩

section
variable {x y i j col row : Int}

/-- The window of P1 starts one source pixel before (x/2, y/2) on each axis (R172). -/
theorem offset_p1_eq_iff : offset .p1 x y i j = (col, row) ↔ x / 2 + (i - 1) = col ∧ y / 2 + (j - 1) = row := Prod.mk_inj

/-- P2A is rotated by 45 degrees: the column follows the sum of the matrix indices, the row their difference (R173). -/
theorem offset_p2a_eq_iff : offset .p2a x y i j = (col, row) ↔ x + (i + j - 2) = col ∧ y + (i - j) = row := by
  rw [offset, Prod.mk_inj]
  omega

/-- P2B is the table of P2A shifted by (-1, +1) (R174). -/
theorem offset_p2b_eq_p2a : offset .p2b x y i j = offset .p2a (x - 1) (y + 1) i j :=
  (offset_p2a_eq_iff.2 (by omega)).symm

/-- The window of P3 starts two cells before (x, y) on each axis (R175). -/
theorem offset_p3_eq_iff : offset .p3 x y i j = (col, row) ↔ x + (i - 2) = col ∧ y + (j - 2) = row := Prod.mk_inj

end

/-- Settles O33: the axis-aligned windows of P1 and P3, and the rotated one of P2A with its shift P2B, at the listed entries. -/
theorem innerSamplesOfThePatterns : Obligations.InnerSamplesOfThePatterns := by
  intro x y
  refine ⟨?p1, ?p2a, ?p2b, ?p3⟩
  case p1 =>
    simp only [offset_p1_eq_iff]
    omega
  case p2a =>
    simp only [offset_p2a_eq_iff]
    omega
  case p2b =>
    simp only [offset_p2b_eq_p2a, offset_p2a_eq_iff]
    omega
  case p3 =>
    simp only [offset_p3_eq_iff]
    omega

end Sys2Proof.Machine
end

section
/-! PROOFS. Alpha never reaches a colour channel: the datapath and CORE's step map states alike but for alpha to such states
(42_edge.md R208(c), 40_primitives.md R148). -/

namespace Sys2Proof.Machine

variable {s t u : State} {p q : Word}

/-- Two pixel words have the same R, G and B; their alpha may differ (R101). -/
def SameColour (p q : Word) : Prop := p.extractLsb' 0 24 = q.extractLsb' 0 24

theorem sameColour_iff_toNat : SameColour p q ↔ p.toNat % 2 ^ 24 = q.toNat % 2 ^ 24 := by
  simp [SameColour, ← BitVec.toNat_inj]

theorem SameColour.channelOf_eq (h : SameColour p q) {c : Channel} (hc : c ≠ .a) : channelOf c p = channelOf c q := by
  have hlow := sameColour_iff_toNat.1 h
  have hp := channelOf_eq_byte p
  have hq := channelOf_eq_byte q
  cases c with
  | a => exact absurd rfl hc
  | r | g | b => omega

/-- Alpha stands above the colour channels (R103). -/
theorem sameColour_pack (r g b a a' : Nat) : SameColour (pack r g b a) (pack r g b a') := by
  simp only [sameColour_iff_toNat, pack, toNat_append_eq_add, BitVec.toNat_ofNat]
  omega

/-- Each channel is interpolated from its own samples (R220, R228). -/
theorem sameColour_interpolate {ch ch' : Channel → Mat4 Nat} (h : ∀ c, c ≠ .a → ch c = ch' c) (sel : Bool) (wab : CoeffPair) :
    SameColour (interpolate ch sel wab) (interpolate ch' sel wab) := by
  unfold interpolate
  rw [h .r (by decide), h .g (by decide), h .b (by decide)]
  exact sameColour_pack _ _ _ _ _

/-- The luma reads R, G and B (R148). -/
theorem matricesOf_luma_congr {m n : Mat4 Word} (h : ∀ i j, SameColour (m i j) (n i j)) :
    (matricesOf m).luma = (matricesOf n).luma := by
  funext i j
  simp only [matricesOf, (h i j).channelOf_eq (c := .r) (by decide), (h i j).channelOf_eq (c := .g) (by decide),
    (h i j).channelOf_eq (c := .b) (by decide)]

theorem matricesOf_ch_congr {m n : Mat4 Word} (h : ∀ i j, SameColour (m i j) (n i j)) {c : Channel} (hc : c ≠ .a) :
    (matricesOf m).ch c = (matricesOf n).ch c :=
  funext fun i => funext fun j => (h i j).channelOf_eq hc

/-- The state with other words written in its pixel memories. -/
def State.withMemory (s : State) (m n : Memory) : State := { s with src := m, dst := n }

@[simp] theorem State.withMemory_phase (s : State) (m n : Memory) : (s.withMemory m n).phase = s.phase := rfl

@[simp] theorem State.withMemory_sp (s : State) (m n : Memory) : (s.withMemory m n).sp = s.sp := rfl

theorem State.nextBlock_withMemory (s : State) (m n : Memory) (p : Phase) (sp : StepPointer) :
    (s.withMemory m n).nextBlock p sp = (s.nextBlock p sp).withMemory m n := by
  rw [State.nextBlock, State.nextBlock, apply_ite (State.withMemory · m n)]
  rfl

/-- The advance reads no memory (R270). -/
theorem State.advance_withMemory (s : State) (m n : Memory) : (s.withMemory m n).advance = s.advance.withMemory m n := by
  unfold State.advance
  rw [State.withMemory_phase, State.withMemory_sp]
  split
  · rfl
  · exact s.nextBlock_withMemory m n _ _
  · rfl
  · exact State.nextBlock_withMemory { s with sp := ⟨s.sp.x, s.sp.y, .tr⟩ } m n _ _
  · split
    · rfl
    · split <;> rfl

theorem State.advance_srcRead (s : State) (k : Nat) : s.advance.srcRead k = s.srcRead k := by
  rw [State.advance_frame]
  rfl

theorem State.advance_dstRead (s : State) (k : Nat) : s.advance.dstRead k = s.dstRead k := by
  rw [State.advance_frame]
  rfl

/-- A write of the same index, with words of the same colour. -/
def SameColourWrite (w w' : Nat × Word) : Prop := w.1 = w'.1 ∧ SameColour w.2 w'.2

theorem forall_index_lt_of_sameColourWrite {ws ws' : List (Nat × Word)} (hws : List.Forall₂ SameColourWrite ws ws') {n : Nat}
    (h : ∀ w ∈ ws, w.1 < n) : ∀ w' ∈ ws', w'.1 < n := by
  induction hws with
  | nil => exact h
  | cons hw _ ih =>
    obtain ⟨hhead, htail⟩ := List.forall_mem_cons.1 h
    exact List.forall_mem_cons.2 ⟨hw.1 ▸ hhead, ih htail⟩

namespace State.AlikeButAlpha

/-- States alike but for alpha differ in their memories only. -/
theorem exists_memories (h : s.AlikeButAlpha t) : ∃ m n, t = s.withMemory m n := ⟨_, _, h.rest⟩

theorem bufferRead (h : s.AlikeButAlpha t) (b : Space) (k : Nat) : SameColour (s.bufferRead b k) (t.bufferRead b k) := by
  cases b with
  | src => exact h.src k
  | dst => exact h.dst k

/-- The new pixels have the same colour: both gathers read the same cells, and sel follows from the luma (R200, R208(c)). -/
theorem newPixel (h : s.AlikeButAlpha t) (pat : Pattern) (wp : WeightVector) (wab : CoeffPair) (x y : Nat) :
    SameColour (s.newPixel pat wp wab x y) (t.newPixel pat wp wab x y) := by
  obtain ⟨m, n, rfl⟩ := h.exists_memories
  have hread (i j : Fin 4) := h.bufferRead (bufferOf pat)
    (gatherIndex pat (s.bufferWidth (bufferOf pat)) (s.bufferHeight (bufferOf pat)) x y i j)
  have hluma : (s.gather pat x y).luma = ((s.withMemory m n).gather pat x y).luma :=
    matricesOf_luma_congr hread
  unfold State.newPixel
  rw [← hluma]
  exact sameColour_interpolate (fun c hc => matricesOf_ch_congr hread hc) _ wab

theorem dstWrite (h : s.AlikeButAlpha t) {w w' : Nat × Word} (hw : SameColourWrite w w') :
    (s.dstWrite w.1 w.2).AlikeButAlpha (t.dstWrite w'.1 w'.2) := by
  obtain ⟨hindex, hcolour⟩ := hw
  rw [← hindex]
  refine ⟨?_, h.src, fun k => ?_⟩
  · obtain ⟨m, n, rfl⟩ := h.exists_memories
    rfl
  · by_cases hk : k = w.1
    · rw [hk, State.dstRead_dstWrite_same, State.dstRead_dstWrite_same]
      exact hcolour
    · rw [State.dstRead_dstWrite_other _ _ hk, State.dstRead_dstWrite_other _ _ hk]
      exact h.dst k

theorem dstWrites (h : s.AlikeButAlpha t) {ws ws' : List (Nat × Word)} (hws : List.Forall₂ SameColourWrite ws ws') :
    (s.dstWrites ws).AlikeButAlpha (t.dstWrites ws') :=
  List.rel_foldl (fun _ _ h _ _ hw => h.dstWrite hw) h hws

theorem runStep {ok : Bool} {pat : Pattern} {x y : Nat} {ws ws' : List (Nat × Word)} (h : s.AlikeButAlpha t)
    (hws : List.Forall₂ SameColourWrite ws ws') (hu : Machine.runStep s ok pat x y ws = .next u) :
    ∃ v, Machine.runStep t ok pat x y ws' = .next v ∧ u.AlikeButAlpha v := by
  obtain ⟨hok, hgather, hrange, rfl⟩ := runStep_next hu
  refine ⟨t.dstWrites ws', runStep_eq_next hok ?_ ?_, h.dstWrites hws⟩
  · obtain ⟨m, n, rfl⟩ := h.exists_memories
    exact hgather
  · obtain ⟨m, n, rfl⟩ := h.exists_memories
    exact forall_index_lt_of_sameColourWrite hws hrange

/-- A step operation answers states alike but for alpha: the cells of P1_BLK that are copies, and every interpolated cell, have the
colour of their counterparts (R251, R253, R254, R256). -/
theorem exec {i : Instr} (h : s.AlikeButAlpha t) (hi : isStepOperation i) (hu : Machine.exec i s = .next u) :
    ∃ v, Machine.exec i t = .next v ∧ u.AlikeButAlpha v := by
  have hrest : t.blockOk = s.blockOk ∧ t.pixelOk = s.pixelOk ∧ t.cellIndex = s.cellIndex ∧ t.width = s.width := by
    rw [h.rest]
    exact ⟨rfl, rfl, rfl, rfl⟩
  obtain ⟨hblock, hpixel, hcell, hwidth⟩ := hrest
  obtain ⟨x, y, rfl | rfl | rfl | rfl⟩ := hi
  · simp only [Machine.exec, execP1Blk, hblock, hcell, hwidth] at hu ⊢
    refine h.runStep ?_ hu
    exact .cons ⟨rfl, h.src _⟩ (.cons ⟨rfl, h.src _⟩ (.cons ⟨rfl, h.src _⟩ (.cons ⟨rfl, h.newPixel ..⟩ .nil)))
  · simp only [Machine.exec, execP2Tr, hblock, hcell] at hu ⊢
    refine h.runStep ?_ hu
    exact .cons ⟨rfl, h.newPixel ..⟩ .nil
  · simp only [Machine.exec, execP2Bl, hblock, hcell] at hu ⊢
    refine h.runStep ?_ hu
    exact .cons ⟨rfl, h.newPixel ..⟩ .nil
  · simp only [Machine.exec, execP3Px, hpixel, hcell] at hu ⊢
    refine h.runStep ?_ hu
    exact .cons ⟨rfl, h.newPixel ..⟩ .nil

theorem advance (h : s.AlikeButAlpha t) : s.advance.AlikeButAlpha t.advance := by
  refine ⟨?_, fun k => ?_, fun k => ?_⟩
  · obtain ⟨m, n, rfl⟩ := h.exists_memories
    rw [State.advance_withMemory]
    rfl
  · rw [State.advance_srcRead, State.advance_srcRead]
    exact h.src k
  · rw [State.advance_dstRead, State.advance_dstRead]
    exact h.dst k

end State.AlikeButAlpha

theorem State.isStepOperation_of_issue {i : Instr} (hi : s.issue = some i) : isStepOperation i := by
  refine ⟨s.sp.x, s.sp.y, ?_⟩
  rcases State.issue_cases hi with ⟨_, hi⟩ | ⟨_, hi | hi⟩ | ⟨_, hi⟩ <;> simp [hi]

/-- With no turn in the list a step is CORE's turn (R359). -/
theorem step_of_no_inputs (h : s.inputs = []) : step s = takeTurn s.coreTurn s := by
  simp only [step, State.fetch, h]

/-- Settles O49: which step CORE issues and how it advances does not depend on the memories, and the words its step writes have
the same colour in both states. -/
theorem alphaNeverReachesColour : Obligations.AlphaNeverReachesColour := by
  intro s t u h hin hstep
  have hturn : t.inputs = s.inputs ∧ t.coreTurn = s.coreTurn := by rw [h.rest]; exact ⟨rfl, rfl⟩
  rw [step_of_no_inputs hin] at hstep
  rw [step_of_no_inputs (hturn.1.trans hin), hturn.2]
  rcases takeTurn_coreTurn_next hstep with ⟨hi, rfl⟩ | ⟨i, u', hi, hu', rfl⟩
  · exact ⟨t, by simp only [State.coreTurn, hi, takeTurn], h⟩
  · obtain ⟨v, hv, halike⟩ := h.exec (State.isStepOperation_of_issue hi) hu'
    exact ⟨v.advance, by simp only [State.coreTurn, hi, takeTurn, hv, advanceAfter], halike.advance⟩

end Sys2Proof.Machine
end

section
/-! PROOFS. The edge estimator: sel is the exact comparison of the accumulators, which under WP_P2 are twice the first terms and
on a flat matrix are zero (42_edge.md R206 to R208). -/

namespace Sys2Proof.Machine

variable {a : F64} {n : Int}

/-- Rounding is exact on a binary64 value (R145). -/
theorem F64.round_of_representable (ha : a.representable = true) (s : Nat) : F64.round (a.units * 2 ^ s) s = a := by
  have hnear := ((F64.round_isNearestEven (a.units * 2 ^ s) s).2 a ha).1
  have hzero : (a.units - (F64.round (a.units * 2 ^ s) s).units) * 2 ^ s = 0 := by
    rw [sub_mul]
    omega
  have hunits := (mul_eq_zero.1 hzero).resolve_right (by positivity)
  rw [F64.mk.injEq]
  omega

theorem F64.representable_round (n : Int) (s : Nat) : (F64.round n s).representable = true :=
  (F64.round_isNearestEven n s).1

/-- A rounded difference is positive exactly when the difference is: the least positive value, one unit, is representable. -/
theorem F64.round_nonpos_iff : (F64.round n 0).units ≤ 0 ↔ n ≤ 0 := by
  refine ⟨fun h => ?_, F64.round_nonpos 0⟩
  by_contra hpos
  have hone : (F64.round 1 0).units = 1 := by decide +kernel
  have hmono := F64.round_mono 0 (show 1 ≤ n by omega)
  rw [hone] at hmono
  omega

theorem F64.ofInt_zero : F64.ofInt 0 = ⟨0⟩ := congrArg F64.mk (Int.zero_mul _)

theorem edgeSel_iff_dEdge (wp : WeightVector) (y : Mat4 F64) : edgeSel wp y = true ↔ (dEdge wp y).units ≤ 0 := by
  rw [edgeSel, F64.le, F64.ofInt_zero, decide_eq_true_iff]

theorem edgeSel_iff (wp : WeightVector) (y : Mat4 F64) : edgeSel wp y = true ↔ (dw1 wp y).units ≤ (dw2 wp y).units := by
  rw [edgeSel_iff_dEdge, dEdge, F64.sub, F64.round_nonpos_iff, sub_nonpos]

/-- Settles O39: the rounded difference has the sign of the exact one. -/
theorem selComparesTheAccumulators : Obligations.SelComparesTheAccumulators :=
  ⟨fun wp y => ⟨edgeSel_iff_dEdge wp y, edgeSel_iff wp y, fun h => (edgeSel_iff wp y).2 (by rw [h])⟩, fun _ _ => ⟨rfl, rfl⟩⟩

/-- Doubling adds no significant bit. -/
theorem F64.representable_double (ha : a.representable = true) : F64.representable ⟨2 * a.units⟩ = true := by
  have hdvd : 2 ^ (topBit a.units.natAbs - 52) ∣ a.units.natAbs := Nat.dvd_of_mod_eq_zero (of_decide_eq_true ha)
  have htop : topBit (2 * a.units.natAbs) - 52 ≤ topBit a.units.natAbs - 52 + 1 := by
    rcases Nat.eq_zero_or_pos a.units.natAbs with h | h
    · simp [h, topBit_eq_log2]
    · rw [topBit_eq_log2, topBit_eq_log2, Nat.log2_two_mul h.ne']
      omega
  refine decide_eq_true (Nat.mod_eq_zero_of_dvd ?_)
  rw [Int.natAbs_mul]
  exact (pow_dvd_pow 2 htop).trans (pow_succ' 2 _ ▸ Nat.mul_dvd_mul_left 2 hdvd)

theorem F64.add_zero (ha : a.representable = true) : a.add (F64.ofInt 0) = a := by
  simpa [F64.add, F64.ofInt_zero] using F64.round_of_representable ha 0

@[simp] theorem F64.zero_mul (a : F64) : (F64.ofInt 0).mul a = F64.ofInt 0 := by
  simp [F64.mul, F64.ofInt_zero]

@[simp] theorem F64.mul_zero (a : F64) : a.mul (F64.ofInt 0) = F64.ofInt 0 := by
  simp [F64.mul, F64.ofInt_zero]

/-- Multiplication by 2 is exact. -/
theorem F64.two_mul (ha : a.representable = true) : (F64.ofInt 2).mul a = ⟨2 * a.units⟩ := by
  have hproduct : (F64.ofInt 2).units * a.units = 2 * a.units * 2 ^ 1074 := by
    have hone : (unitsPerOne : Int) = 2 ^ 1074 := Nat.cast_pow 2 1074
    rw [F64.ofInt, hone]
    exact mul_right_comm _ _ _
  rw [F64.mul, hproduct]
  exact F64.round_of_representable (F64.representable_double ha) 1074

/-- Under WP_P2 the products with the zero weights add nothing (R207). -/
theorem weightedSum_wpP2 {t0 : F64} (h : t0.representable = true) (t1 t2 t3 t4 t5 : F64) :
    weightedSum wpP2 t0 t1 t2 t3 t4 t5 = ⟨2 * t0.units⟩ := by
  have hw := wpP2_weights
  simp only [List.map_cons, List.map_nil, List.cons.injEq, and_true] at hw
  obtain ⟨hw0, hw1, hw2, hw3, hw4, hw5⟩ := hw
  simp only [weightedSum, hw0, hw1, hw2, hw3, hw4, hw5, F64.zero_mul, F64.two_mul h, F64.add_zero (F64.representable_double h)]

theorem dw1_wpP2 (y : Mat4 F64) : dw1 wpP2 y = ⟨2 * (edgeA0 y).units⟩ :=
  weightedSum_wpP2 (F64.representable_round _ 0) _ _ _ _ _

theorem dw2_wpP2 (y : Mat4 F64) : dw2 wpP2 y = ⟨2 * (edgeB0 y).units⟩ :=
  weightedSum_wpP2 (F64.representable_round _ 0) _ _ _ _ _

/-- Settles O40: the accumulators are the doubled first terms, and doubling keeps the order. -/
theorem pass2SelUsesTheFirstTermOnly : Obligations.Pass2SelUsesTheFirstTermOnly := by
  intro y
  rw [edgeSel_iff, dw1_wpP2, dw2_wpP2]
  exact ⟨rfl, rfl, mul_le_mul_iff_right₀ two_pos⟩

/-- The differences of a flat matrix are zero, and so is every product with one and every sum of them (R208(a)). -/
theorem dw1_flat (wp : WeightVector) (v : F64) : dw1 wp (fun _ _ => v) = F64.ofInt 0 := by
  have hsum : (F64.ofInt 0).add (F64.ofInt 0) = F64.ofInt 0 := F64.add_zero (by decide +kernel)
  simp only [dw1, weightedSum, edgeA0, edgeA1, edgeA2, edgeA3, edgeA4, edgeA5, df_self, hsum, F64.mul_zero]

/-- A flat matrix is its own mirror image. -/
theorem dw2_flat (wp : WeightVector) (v : F64) : dw2 wp (fun _ _ => v) = F64.ofInt 0 :=
  (dw2_eq_dw1_mirror wp _).trans (dw1_flat wp v)

/-- Settles O41: both accumulators are zero, which is a tie. -/
theorem flatLumaIsATie : Obligations.FlatLumaIsATie := by
  intro wp v
  have hedge : dEdge wp (fun _ _ => v) = F64.ofInt 0 := by
    rw [dEdge, dw1_flat, dw2_flat, F64.sub, sub_self, F64.round_zero, F64.ofInt_zero]
  refine ⟨dw1_flat wp v, dw2_flat wp v, hedge, (edgeSel_iff_dEdge wp _).2 ?_⟩
  rw [hedge, F64.ofInt_zero]

end Sys2Proof.Machine
end

section
/-! PROOFS. The interpolation engine: the blend clamped to the local range stays in it through the ceiling, so the saturation of the
quantizer changes nothing (43_interp.md R224 to R229). -/

namespace Sys2Proof.Machine

open F64 (Between)

section
variable {x low high : Int}

theorem clampValue_bounds (h : low ≤ high) (x : Int) : low ≤ clampValue x low high ∧ clampValue x low high ≤ high := by
  unfold clampValue
  omega

theorem clampValue_eq_self (hlow : low ≤ x) (hhigh : x ≤ high) : clampValue x low high = x := by
  rw [clampValue, max_eq_left hlow, min_eq_left hhigh]

end

theorem unitsPerOne_pos : 0 < (unitsPerOne : Int) := by
  rw [unitsPerOne, Nat.cast_pow]
  exact pow_pos two_pos _

theorem F64.ceil_mono {a b : F64} (h : a.units ≤ b.units) : a.ceil ≤ b.ceil :=
  neg_le_neg (Int.ediv_le_ediv unitsPerOne_pos (neg_le_neg h))

@[simp] theorem F64.ceil_ofInt (n : Int) : (F64.ofInt n).ceil = n := by
  rw [F64.ceil, F64.ofInt, ← neg_mul, Int.mul_ediv_cancel _ unitsPerOne_pos.ne', neg_neg]

/-- The ceiling of a value between two integers lies between them (R151). -/
theorem F64.Between.ceil {a : F64} {low high : Int} (h : Between (F64.ofInt low) a (F64.ofInt high)) :
    low ≤ a.ceil ∧ a.ceil ≤ high := by
  simpa only [F64.ceil_ofInt] using And.intro (F64.ceil_mono h.1) (F64.ceil_mono h.2)

section
variable {m : Mat4 Nat}

theorem rangeLo_le_rangeHi (m : Mat4 Nat) : rangeLo m ≤ rangeHi m := by
  unfold rangeLo rangeHi min4 max4
  omega

theorem rangeHi_le {n : Nat} (hm : ∀ i j, m i j ≤ n) : rangeHi m ≤ n :=
  max_le (max_le (max_le (hm 1 1) (hm 2 1)) (hm 1 2)) (hm 2 2)

/-- Equal inner samples make the local range a point. -/
theorem range_of_flat {v : Nat} (h11 : m 1 1 = v) (h21 : m 2 1 = v) (h12 : m 1 2 = v) (h22 : m 2 2 = v) :
    rangeLo m = v ∧ rangeHi m = v := by
  simp only [rangeLo, rangeHi, min4, max4, h11, h21, h12, h22, min_self, max_self, and_self]

variable (sel : Bool) (wab : CoeffPair)

/-- Whatever the blend is, f lies in the local range (R225). -/
theorem antiRing_between (m : Mat4 Nat) :
    Between (F64.ofInt (rangeLo m)) (antiRing sel wab m) (F64.ofInt (rangeHi m)) :=
  clampValue_bounds (ofInt_between_of_le (rangeLo_le_rangeHi m)).2 _

/-- The local range lies in [0, 255], where the quantizer's clamp is the identity (R227). -/
theorem clampValue_ceil_antiRing (hm : ∀ i j, m i j ≤ 255) :
    clampValue (antiRing sel wab m).ceil 0 255 = (antiRing sel wab m).ceil := by
  obtain ⟨hlo, hhi⟩ := (antiRing_between sel wab m).ceil
  have hle := rangeHi_le hm
  exact clampValue_eq_self (by omega) (by omega)

/-- A channel lies in the local range, as the ceiling it is taken from does (R229). -/
theorem interpChannel_bounds (hm : ∀ i j, m i j ≤ 255) :
    rangeLo m ≤ interpChannel sel wab m ∧ interpChannel sel wab m ≤ rangeHi m := by
  obtain ⟨hlo, hhi⟩ := (antiRing_between sel wab m).ceil
  rw [interpChannel, quantize, clampValue_ceil_antiRing sel wab hm]
  omega

end

/-- Channel samples with one value at the two corners of the anti-diagonal, one at its two inner cells, and one off it. -/
def antiDiagonalSamples (corner inner off : Nat) : Mat4 Nat :=
  fun i j => if i.val + j.val = 3 then if i = 0 ∨ i = 3 then corner else inner else off

/-- Settles O42: f lies in the local range and the ceiling keeps it there. A blend that overshoots a bright anti-diagonal gives the
upper bound, and one that undershoots a dark anti-diagonal between bright corners gives the lower. -/
theorem interpolationStaysInTheLocalRange : Obligations.InterpolationStaysInTheLocalRange := by
  refine ⟨fun sel wab m hm => ?_, ⟨antiDiagonalSamples 0 200 100, by decide +kernel⟩,
    ⟨antiDiagonalSamples 255 100 200, by decide +kernel⟩⟩
  obtain ⟨hceilLo, hceilHi⟩ := (antiRing_between sel wab m).ceil
  obtain ⟨hlo, hhi⟩ := interpChannel_bounds sel wab hm
  refine ⟨hceilLo, hceilHi, clampValue_ceil_antiRing sel wab hm, hlo, hhi, fun v h11 h21 h12 h22 => ?_⟩
  obtain ⟨hloEq, hhiEq⟩ := range_of_flat h11 h21 h12 h22
  omega

end Sys2Proof.Machine
end

section
/-! PROOFS. What the step operations write: the cells of R251, R253, R254 and R256 with their words, and nothing else; equal inner
samples interpolate to themselves (43_interp.md R229, 44_passes.md R275). -/

namespace Sys2Proof.Machine

variable {s t : State}

/-- Writes to distinct indices leave each index with the word named for it; their order does not matter (R251). -/
theorem State.dstRead_dstWrites_of_mem (s : State) {ws : List (Nat × Word)} (hdistinct : (ws.map Prod.fst).Nodup)
    {k : Nat} {v : Word} (hw : (k, v) ∈ ws) : (s.dstWrites ws).dstRead k = v := by
  induction ws generalizing s with
  | nil => cases hw
  | cons w ws ih =>
    rw [List.map_cons, List.nodup_cons] at hdistinct
    rw [State.dstWrites_cons]
    rcases List.mem_cons.1 hw with rfl | hw
    · rw [State.dstRead_dstWrites_other, State.dstRead_dstWrite_same]
      exact fun u hu heq => hdistinct.1 (List.mem_map.2 ⟨u, hu, heq⟩)
    · exact ih _ hdistinct.2 hw

theorem State.srcRead_dstWrites (s : State) (ws : List (Nat × Word)) (k : Nat) :
    (s.dstWrites ws).srcRead k = s.srcRead k := by
  rw [State.dstWrites_frame]
  rfl

@[simp] theorem State.dstWrites_phase (s : State) (ws : List (Nat × Word)) : (s.dstWrites ws).phase = s.phase := by
  rw [State.dstWrites_frame]

@[simp] theorem State.dstWrites_sp (s : State) (ws : List (Nat × Word)) : (s.dstWrites ws).sp = s.sp := by
  rw [State.dstWrites_frame]

@[simp] theorem State.dstWrites_inputs (s : State) (ws : List (Nat × Word)) : (s.dstWrites ws).inputs = s.inputs := by
  rw [State.dstWrites_frame]

/-- One write changes one word (R253, R254, R256). -/
theorem State.dstWrites_single (s : State) (k : Nat) (v : Word) :
    s.dstWrites [(k, v)] = { s with dst := (s.dstWrites [(k, v)]).dst } ∧ (s.dstWrites [(k, v)]).dstRead k = v ∧
    (∀ a, a ≠ k → (s.dstWrites [(k, v)]).dstRead a = s.dstRead a) ∧
    ∀ a, (s.dstWrites [(k, v)]).srcRead a = s.srcRead a :=
  ⟨s.dstWrites_frame _, s.dstRead_dstWrite_same k v, fun _ => s.dstRead_dstWrite_other v, s.srcRead_dstWrites _⟩

/-- Row by row, the cells of a W by H array have the indices below W * H. -/
theorem rowMajor_lt {w h x y : Nat} (hx : x < w) (hy : y < h) : y * w + x < w * h :=
  calc y * w + x
    _ = w * y + x := by rw [Nat.mul_comm]
    _ < h * w := Nat.mul_add_lt_mul_of_lt_of_lt hy hx
    _ = w * h := Nat.mul_comm h w

/-- The output image holds 4*W*H cells (R46). -/
theorem State.cellIndex_lt_image {x y : Nat} (hx : x < s.outWidth) (hy : y < s.outHeight) :
    s.cellIndex x y < 4 * (s.width.toNat * s.height.toNat) :=
  (rowMajor_lt hx hy).trans_eq s.dstBuffer_area

/-- The writes of P1_BLK: three copies of the source pixel and the interpolated one (R251). -/
def State.blockWrites (s : State) (x y : Nat) : List (Nat × Word) :=
  [(s.cellIndex x y, s.srcRead (y / 2 * s.width.toNat + x / 2)),
   (s.cellIndex (x + 1) y, s.srcRead (y / 2 * s.width.toNat + x / 2)),
   (s.cellIndex x (y + 1), s.srcRead (y / 2 * s.width.toNat + x / 2)),
   (s.cellIndex (x + 1) (y + 1), s.newPixel .p1 wpFull wab12 x y)]

/-- The four cells of a block have four indices, since the image is at least two columns wide (R251). -/
theorem State.blockWrites_nodup {x y : Nat} (h : x + 1 < s.outWidth) : ((s.blockWrites x y).map Prod.fst).Nodup := by
  have hdown : (y + 1) * s.outWidth = y * s.outWidth + s.outWidth := Nat.succ_mul _ _
  simp only [State.blockWrites, State.cellIndex, hdown, List.map_cons, List.map_nil, List.nodup_cons, List.mem_cons,
    List.not_mem_nil, List.nodup_nil, not_false_eq_true, and_true, or_false]
  omega

/-- A step operation that completes has written cells of the image only (R275). -/
theorem exec_stepOperation_writes {i : Instr} (hi : isStepOperation i) (h : exec i s = .next t) :
    ∃ ws, t = s.dstWrites ws ∧ ∀ w ∈ ws, w.1 < 4 * (s.width.toNat * s.height.toNat) := by
  obtain ⟨x, y, rfl | rfl | rfl | rfl⟩ := hi <;> obtain ⟨hok, _, _, ht⟩ := runStep_next h <;> refine ⟨_, ht, ?_⟩
  · obtain ⟨hx, hx', hy, hy'⟩ := State.blockOk_cells hok
    simp [State.cellIndex_lt_image, hx, hx', hy, hy']
  · obtain ⟨_, hx', hy, _⟩ := State.blockOk_cells hok
    simp [State.cellIndex_lt_image, hx', hy]
  · obtain ⟨hx, _, _, hy'⟩ := State.blockOk_cells hok
    simp [State.cellIndex_lt_image, hx, hy']
  · obtain ⟨hx, hy⟩ := (s.pixelOk_iff x y).1 hok
    simpa using State.cellIndex_lt_image hx hy

/-- Settles O50: all writes of a step operation go to cells of the image. -/
theorem stepsWriteOnlyTheImage : Obligations.StepsWriteOnlyTheImage := by
  intro i s t hi h
  obtain ⟨ws, rfl, hws⟩ := exec_stepOperation_writes hi h
  exact ⟨s.dstWrites_frame ws, fun k hk => s.dstRead_dstWrites_other ws k fun w hw => ((hws w hw).trans_le hk).ne⟩

/-- A sample whose offset lies inside the buffer is read at that offset (R171). -/
theorem gatherCell_of_inside {pat : Pattern} {bw bh x y : Nat} {i j : Fin 4}
    (h : 0 ≤ (offset pat x y i.val j.val).1 ∧ (offset pat x y i.val j.val).1 ≤ (bw : Int) - 1 ∧
      0 ≤ (offset pat x y i.val j.val).2 ∧ (offset pat x y i.val j.val).2 ≤ (bh : Int) - 1) :
    gatherCell pat bw bh x y i j = offset pat x y i.val j.val := by
  obtain ⟨hcol, hcolLast, hrow, hrowLast⟩ := h
  rw [gatherCell, cclamp_eq_self hcol hcolLast, cclamp_eq_self hrow hrowLast]

theorem gatherIndex_of_inside {pat : Pattern} {bw bh x y col row : Nat} {i j : Fin 4}
    (h : offset pat x y i.val j.val = ((col : Int), (row : Int))) (hcol : col < bw) (hrow : row < bh) :
    gatherIndex pat bw bh x y i j = row * bw + col := by
  rw [gatherIndex, gatherCell_of_inside (by simp only [h]; omega), h]
  rfl

theorem gatherIndex_p1_inner {bw bh x y : Nat} (hx : x / 2 < bw) (hy : y / 2 < bh) :
    gatherIndex .p1 bw bh x y 1 1 = y / 2 * bw + x / 2 :=
  gatherIndex_of_inside (by rw [offset_p1_eq_iff]; simp) hx hy

theorem gatherIndex_p3_inner {bw bh x y : Nat} (hx : x < bw) (hy : y < bh) :
    gatherIndex .p3 bw bh x y 2 2 = y * bw + x :=
  gatherIndex_of_inside (by rw [offset_p3_eq_iff]; simp) hx hy

/-- At the origin border replication makes the inner samples of P3 one cell (R178, R256). -/
theorem gatherIndex_p3_origin {bw bh : Nat} (hw : 1 ≤ bw) (hh : 1 ≤ bh) {i j : Fin 4} (hi : i.val ≤ 2) (hj : j.val ≤ 2) :
    gatherIndex .p3 bw bh 0 0 i j = 0 := by
  have hclamp {v : Int} (hv : v ≤ 0) {n : Nat} (hn : 1 ≤ n) : cclamp v n = 0 := by
    unfold cclamp clampValue
    omega
  simp only [gatherIndex, gatherCell, offset]
  rw [hclamp (by omega) hw, hclamp (by omega) hh]
  simp

/-- Equal inner samples in every channel interpolate to their pixel, whatever sel is (R229). -/
theorem State.newPixel_of_flat {pat : Pattern} {x y : Nat} {p : Word}
    (h : ∀ c, (s.gather pat x y).ch c 1 1 = channelOf c p ∧ (s.gather pat x y).ch c 2 1 = channelOf c p ∧
      (s.gather pat x y).ch c 1 2 = channelOf c p ∧ (s.gather pat x y).ch c 2 2 = channelOf c p)
    (wp : WeightVector) (wab : CoeffPair) : s.newPixel pat wp wab x y = p := by
  have hchannel (sel : Bool) (c : Channel) : interpChannel sel wab ((s.gather pat x y).ch c) = channelOf c p := by
    obtain ⟨h11, h21, h12, h22⟩ := h c
    obtain ⟨hlo, hhi⟩ := interpChannel_bounds sel wab (m := (s.gather pat x y).ch c) fun _ _ => channelOf_le _ _
    obtain ⟨hloEq, hhiEq⟩ := range_of_flat h11 h21 h12 h22
    omega
  simp only [State.newPixel, interpolate, hchannel]
  exact pixelPackingLaws.2 p

/-- The samples of P1 for a one-pixel image are all its pixel (R178). -/
theorem State.newPixel_p1_single (hw : s.width.toNat = 1) (hh : s.height.toNat = 1) (wp : WeightVector) (wab : CoeffPair)
    (x y : Nat) : s.newPixel .p1 wp wab x y = s.srcRead 0 := by
  have hindex (i j : Fin 4) : gatherIndex .p1 s.width.toNat s.height.toNat x y i j = 0 := by
    rw [hw, hh, ← Nat.lt_one_iff]
    exact gatherIndex_lt le_rfl le_rfl .p1 x y i j
  have hsample (c : Channel) (i j : Fin 4) : (s.gather .p1 x y).ch c i j = channelOf c (s.srcRead 0) :=
    congrArg (fun k => channelOf c (s.srcRead k)) (hindex i j)
  exact State.newPixel_of_flat (fun c => ⟨hsample c 1 1, hsample c 2 1, hsample c 1 2, hsample c 2 2⟩) wp wab

/-- The sample (1, 1) of P1 is the source pixel of the block (R176, R251). -/
theorem State.gather_p1_inner {x y : Nat} (hx : x / 2 < s.width.toNat) (hy : y / 2 < s.height.toNat) (c : Channel) :
    (s.gather .p1 x y).ch c 1 1 = channelOf c (s.srcRead (y / 2 * s.width.toNat + x / 2)) :=
  congrArg (fun k => channelOf c (s.srcRead k)) (gatherIndex_p1_inner hx hy)

theorem exec_p1Blk_blockWrites {x y : BitVec 20} (hok : s.blockOk x y = true)
    (hfit : s.width.toNat * s.height.toNat ≤ s.capacity) :
    exec (.p1Blk x y) s = .next (s.dstWrites (s.blockWrites x.toNat y.toNat)) := exec_p1Blk_fits hok hfit

/-- Settles O24: the four cells are distinct, and the sample (1, 1) of P1 is the pixel copied. -/
theorem p1BlkWritesItsBlock : Obligations.P1BlkWritesItsBlock := by
  intro s x y hok hfit
  obtain ⟨_, hx', _, _⟩ := State.blockOk_cells hok
  obtain ⟨_, _, hx, hy⟩ := (s.blockOk_iff x y).1 hok
  have hread {k : Nat} {v : Word} (hw : (k, v) ∈ s.blockWrites x.toNat y.toNat) :
      (s.dstWrites (s.blockWrites x.toNat y.toNat)).dstRead k = v :=
    s.dstRead_dstWrites_of_mem (State.blockWrites_nodup hx') hw
  have hcorner := hread (.tail _ (.tail _ (.tail _ (.head _))))
  refine ⟨_, exec_p1Blk_blockWrites hok hfit, s.dstWrites_frame _, hread (.head _), hread (.tail _ (.head _)),
    hread (.tail _ (.tail _ (.head _))), hcorner, fun k hTL hTR hBL hBR => ?_, s.srcRead_dstWrites _, fun c => ?_,
    fun hw hh => hcorner.trans (State.newPixel_p1_single hw hh _ _ _ _)⟩
  · refine s.dstRead_dstWrites_other _ k ?_
    simp only [State.blockWrites, List.forall_mem_cons]
    exact ⟨hTL.symm, hTR.symm, hBL.symm, hBR.symm, List.forall_mem_nil _⟩
  · exact State.gather_p1_inner (by omega) (by omega) c

/-- Settles O25: P2_TR is the one write of its cell. -/
theorem p2TrWritesItsCell : Obligations.P2TrWritesItsCell :=
  fun s _ _ hok hfit => ⟨_, exec_p2Tr_fits hok hfit, s.dstWrites_single _ _⟩

/-- Settles O26: P2_BL is the one write of its cell. -/
theorem p2BlWritesItsCell : Obligations.P2BlWritesItsCell :=
  fun s _ _ hok hfit => ⟨_, exec_p2Bl_fits hok hfit, s.dstWrites_single _ _⟩

/-- The sample (2, 2) of P3 is the pixel that the step rewrites (R256). -/
theorem State.gather_p3_inner {x y : Nat} (hx : x < s.outWidth) (hy : y < s.outHeight) (c : Channel) :
    (s.gather .p3 x y).ch c 2 2 = channelOf c (s.dstRead (s.cellIndex x y)) :=
  congrArg (fun k => channelOf c (s.dstRead k)) (gatherIndex_p3_inner hx hy)

/-- At the origin the inner samples of P3 are the pixel itself, which so keeps its value (R256). -/
theorem State.newPixel_p3_origin (hw : 1 ≤ s.outWidth) (hh : 1 ≤ s.outHeight) (wp : WeightVector) (wab : CoeffPair) :
    s.newPixel .p3 wp wab 0 0 = s.dstRead 0 := by
  have hsample (c : Channel) {i j : Fin 4} (hi : i.val ≤ 2) (hj : j.val ≤ 2) :
      (s.gather .p3 0 0).ch c i j = channelOf c (s.dstRead 0) :=
    congrArg (fun k => channelOf c (s.dstRead k)) (gatherIndex_p3_origin hw hh hi hj)
  exact State.newPixel_of_flat (fun c => ⟨hsample c (by decide) (by decide), hsample c (by decide) (by decide),
    hsample c (by decide) (by decide), hsample c (by decide) (by decide)⟩) wp wab

theorem State.cellIndex_origin (s : State) : s.cellIndex 0 0 = 0 := by simp [State.cellIndex]

/-- Settles O27: the sample (2, 2) of P3 is the pixel's old value, and at the origin it is every inner sample. -/
theorem p3PxRewritesItsPixel : Obligations.P3PxRewritesItsPixel := by
  intro s x y hok hfit
  obtain ⟨hx, hy⟩ := (s.pixelOk_iff x y).1 hok
  obtain ⟨hframe, hnew, hother, hsrc⟩ := s.dstWrites_single (s.cellIndex x.toNat y.toNat)
    (s.newPixel .p3 wpFull wab12 x.toNat y.toNat)
  have hold := State.gather_p3_inner hx hy
  refine ⟨_, exec_p3Px_fits hok hfit, hframe, hnew, hother, hsrc, hold, fun hflat => ?_, ?_⟩
  · refine hnew.trans (State.newPixel_of_flat (fun c => ?_) _ _)
    obtain ⟨h11, h21, h12⟩ := hflat c
    exact ⟨h11.trans (hold c), h21.trans (hold c), h12.trans (hold c), hold c⟩
  · rintro rfl rfl
    have hcell : s.cellIndex (0#20).toNat (0#20).toNat = 0 := s.cellIndex_origin
    rw [hcell] at hnew ⊢
    exact hnew.trans (State.newPixel_p3_origin hx hy _ _)

/-- Settles O32: the offsets of the pass-2 patterns stay inside the buffer, and the sum of column and row is that of the block's
origin plus an even number. -/
theorem interiorPass2ReadsNoPass2Cell : Obligations.InteriorPass2ReadsNoPass2Cell := by
  intro bw bh x y i j hx hy hxlo hxhi hylo hyhi
  have hi := i.isLt
  have hj := j.isLt
  rw [gatherCell_of_inside (pat := .p2a) (by simp only [offset]; omega),
    gatherCell_of_inside (pat := .p2b) (by simp only [offset]; omega)]
  refine ⟨⟨rfl, ?_⟩, ⟨rfl, ?_⟩, by omega, by omega⟩
  · simp only [offset]
    omega
  · simp only [offset]
    omega

end Sys2Proof.Machine
end

section
/-! PROOFS. The orchestrator: its moves in terms of the coordinates as numbers, the completing action, and progress of every
turn that the hardware has (44_passes.md R270 to R272, 60_exceptions.md R320). -/

namespace Sys2Proof.Machine

variable {s : State}

/-- A coordinate of an image fits the 20 bits of the pointer (R118). -/
theorem coord_toNat {n : Nat} (h : n < 2 ^ 20) : (BitVec.ofNat 20 n).toNat = n := by
  rw [BitVec.toNat_ofNat, Nat.mod_eq_of_lt h]

theorem coord_ofNat {v : BitVec 20} {n : Nat} (h : v.toNat = n) : BitVec.ofNat 20 n = v := by
  rw [← h, BitVec.ofNat_toNat, BitVec.setWidth_eq]

/-- The 20-bit pointer moves two on without wrapping (R118, R270). -/
theorem add_two_eq_ofNat (v : BitVec 20) : v + 2#20 = BitVec.ofNat 20 (v.toNat + 2) := by
  bv_omega

theorem sub_one_eq_ofNat {v : BitVec 20} (h : 0 < v.toNat) : v - 1#20 = BitVec.ofNat 20 (v.toNat - 1) := by
  bv_omega

/-- The block scan moves two columns on, or to the next row of blocks, or enters the next pass (R252, R255, R270). -/
theorem State.nextBlock_eq (hok : s.blockOk s.sp.x s.sp.y = true) (next : Phase) (entry : StepPointer) :
    (s.sp.x.toNat + 2 < 2 * s.width.toNat →
      s.nextBlock next entry = { s with sp := ⟨BitVec.ofNat 20 (s.sp.x.toNat + 2), s.sp.y, s.sp.sub⟩ }) ∧
    (s.sp.x.toNat + 2 = 2 * s.width.toNat → s.sp.y.toNat + 2 < 2 * s.height.toNat →
      s.nextBlock next entry = { s with sp := ⟨0#20, BitVec.ofNat 20 (s.sp.y.toNat + 2), s.sp.sub⟩ }) ∧
    (s.sp.x.toNat + 2 = 2 * s.width.toNat → s.sp.y.toNat + 2 = 2 * s.height.toNat →
      s.nextBlock next entry = s.enterPass next entry) := by
  obtain ⟨_, _, hx, hy⟩ := (s.blockOk_iff _ _).1 hok
  have hw := s.width.isLt
  have hh := s.height.isLt
  have hright : (s.sp.x + 2#20).toNat = s.sp.x.toNat + 2 := by bv_omega
  have hdown : (s.sp.y + 2#20).toNat = s.sp.y.toNat + 2 := by bv_omega
  refine ⟨fun hcol => ?_, fun hcol hrow => ?_, fun hcol hrow => ?_⟩
  · have horigin : s.nextOrigin = (s.sp.x + 2#20, s.sp.y) := if_neg (hright ▸ hcol.ne)
    rw [State.nextBlock, horigin, add_two_eq_ofNat]
    exact if_neg hy.ne
  · have horigin : s.nextOrigin = (0#20, s.sp.y + 2#20) := if_pos (hright.trans hcol)
    rw [State.nextBlock, horigin, ← add_two_eq_ofNat]
    exact if_neg (hdown ▸ hrow.ne)
  · have horigin : s.nextOrigin = (0#20, s.sp.y + 2#20) := if_pos (hright.trans hcol)
    rw [State.nextBlock, horigin]
    exact if_pos (hdown.trans hrow)

theorem State.advance_p1 (hp : s.phase = .p1) : s.advance = s.nextBlock .p2 scanStart := by
  simp only [State.advance, hp]

theorem State.advance_p2_tr (hp : s.phase = .p2) (hsub : s.sp.sub = .tr) :
    s.advance = { s with sp := ⟨s.sp.x, s.sp.y, .bl⟩ } := by
  simp only [State.advance, hp, hsub]

theorem State.advance_p2_bl (hp : s.phase = .p2) (hsub : s.sp.sub = .bl) :
    s.advance = State.nextBlock { s with sp := ⟨s.sp.x, s.sp.y, .tr⟩ } .p3 s.backwardStart := by
  simp only [State.advance, hp, hsub]

/-- The backward scan moves one pixel back, or to the end of the row above, or completes (R257, R270, R272). -/
theorem State.advance_p3 (hp : s.phase = .p3) :
    (0 < s.sp.x.toNat → s.advance = { s with sp := ⟨BitVec.ofNat 20 (s.sp.x.toNat - 1), s.sp.y, s.sp.sub⟩ }) ∧
    (s.sp.x.toNat = 0 → 0 < s.sp.y.toNat → s.advance = { s with
      sp := ⟨BitVec.ofNat 20 (s.outWidth - 1), BitVec.ofNat 20 (s.sp.y.toNat - 1), s.sp.sub⟩ }) ∧
    (s.sp.x.toNat = 0 → s.sp.y.toNat = 0 → s.advance = s.complete) := by
  refine ⟨fun hx => ?_, fun hx hy => ?_, fun hx hy => ?_⟩
  · simp only [State.advance, hp, if_pos hx, sub_one_eq_ofNat hx]
  · simp only [State.advance, hp, if_neg hx.not_gt, if_pos hy, sub_one_eq_ofNat hy]
  · simp only [State.advance, hp, if_neg hx.not_gt, if_neg hy.not_gt]

/-- Settles O44: the moves of the block scan in passes 1 and 2, of the cell inside a block, and of the backward scan. -/
theorem orchestratorTransitions : Obligations.OrchestratorTransitions := by
  intro s hptr
  refine ⟨fun hp => ⟨?_, ?_⟩, fun hp hsub => ⟨?_, s.advance_p2_tr hp hsub⟩, fun hp hsub => ⟨?_, ?_⟩,
    fun hp => ⟨?_, s.advance_p3 hp⟩⟩
  case refine_1 | refine_3 | refine_4 | refine_6 => simp only [State.issue, *]
  · rw [State.advance_p1 hp]
    exact State.nextBlock_eq (State.pointerOk_of_block (.inl hp) ▸ hptr) .p2 scanStart
  · rw [State.advance_p2_bl hp hsub]
    exact State.nextBlock_eq (s := { s with sp := ⟨s.sp.x, s.sp.y, .tr⟩ })
      (State.pointerOk_of_block (.inr hp) ▸ hptr) .p3 s.backwardStart

/-- While idle CORE's turn changes nothing (R340). -/
theorem step_of_idle (hp : s.phase = .idle) (hin : s.inputs = []) : step s = .next s := by
  rw [step_of_no_inputs hin]
  simp only [State.coreTurn, State.issue, hp, takeTurn]

theorem step_of_issue {i : Instr} {u : State} (hin : s.inputs = []) (hi : s.issue = some i) (hu : exec i s = .next u) :
    step s = .next u.advance := by
  rw [step_of_no_inputs hin]
  simp only [State.coreTurn, hi, takeTurn, hu, advanceAfter]

/-- Settles O45: the step that CORE issues at (0, 0) writes its one pixel, and the advance after it completes the run. -/
theorem completionIsOneActionWithTheLastWrite : Obligations.CompletionIsOneActionWithTheLastWrite := by
  intro s h hp hx hy hin
  have hi : s.issue = some (.p3Px 0#20 0#20) := by simp only [State.issue, hp, hx, hy]
  have hok : s.pixelOk 0#20 0#20 = true := by simpa only [hx, hy] using h.pixelOk_of_issue hi
  obtain ⟨_, hnew, hother, _⟩ := s.dstWrites_single 0 (s.newPixel .p3 wpFull wab12 0 0)
  have hexec : exec (.p3Px 0#20 0#20) s = .next (s.dstWrites [(0, s.newPixel .p3 wpFull wab12 0 0)]) := by
    simpa [s.cellIndex_origin] using exec_p3Px_fits hok (h.fits_of_issue hi)
  have hadvance : (s.dstWrites [(0, s.newPixel .p3 wpFull wab12 0 0)]).advance =
      (s.dstWrites [(0, s.newPixel .p3 wpFull wab12 0 0)]).complete :=
    (State.advance_p3 (by simp [hp])).2.2 (by simp [hx]) (by simp [hy])
  refine ⟨_, step_of_issue hin hi hexec, ?_⟩
  rw [hadvance]
  refine ⟨hnew, hother, rfl, rfl, rfl, ?_, fun u hu => ?_⟩
  · simp [State.irq]
  · rw [step_of_idle (State.complete_phase _) (by simp [hin])] at hu
    injection hu with hu
    exact hu.symm

/-- In a state of the invariant CORE's turn completes: it is idle, or the step it issues completes (R74, R270). -/
theorem State.Inv.takeTurn_coreTurn (h : s.Inv) : ∃ t, takeTurn s.coreTurn s = .next t := by
  unfold State.coreTurn
  cases hi : s.issue with
  | none => exact ⟨s, rfl⟩
  | some i =>
    obtain ⟨u, hu⟩ := h.exec_issue hi
    exact ⟨u.advance, by simp only [takeTurn, hu, advanceAfter]⟩

/-- Settles O60: a host transaction and reset complete in every state, and CORE's turn in every state of the invariant. -/
theorem hardwareStepsNeverStop : Obligations.HardwareStepsNeverStop := by
  intro s h hturn
  have hcore : ∃ t, takeTurn s.coreTurn s.afterFetch = .next t :=
    State.Inv.takeTurn_coreTurn (s := s.afterFetch) h.withOwn
  rw [SafeStep, step, s.fetch_snd]
  unfold State.fetch
  split
  · exact hcore
  · exact hcore
  · exact ⟨_, rfl⟩
  · next w rest _ =>
    obtain ⟨t, ht, _⟩ := everyHostTransactionCompletes s.afterFetch w
    exact ⟨t, ht⟩
  · next hin => simp [State.hardwareTurn, hin] at hturn

end Sys2Proof.Machine
end

section
/-! PROOFS. Placing a well-formed STEP descriptor arms the orchestrator at it (30_encoding.md R111, 44_passes.md R270; log 15). -/

namespace Sys2Proof.Machine

variable {s : State}

/-- Of the words of a split OP only that with clear reserved bits can be well formed (R111). -/
theorem splitReserved_wf {r : BitVec 4} {clear b40 : Instr} {b43 : BitVec 3 → Instr} {b42 : BitVec 2 → Instr}
    {b41 : BitVec 1 → Instr} (h43 : ∀ low, (b43 low).wf = false) (h42 : ∀ low, (b42 low).wf = false)
    (h41 : ∀ low, (b41 low).wf = false) (h40 : b40.wf = false)
    (h : (splitReserved r clear b43 b42 b41 b40).wf = true) : splitReserved r clear b43 b42 b41 b40 = clear := by
  unfold splitReserved at h ⊢
  split_ifs at h ⊢ <;> simp_all

/-- A well-formed STEP descriptor is one of OP 1 to 4 and decodes to its step operation (R110, R111). -/
theorem decodeStepDesc_of_wf {w : BitVec 48} (h : (decodeStepDesc w).wf = true) :
    ((stepOp w).toNat = 1 ∧ decodeStepDesc w = .p1Blk (stepX w) (stepY w)) ∨
    ((stepOp w).toNat = 2 ∧ decodeStepDesc w = .p2Tr (stepX w) (stepY w)) ∨
    ((stepOp w).toNat = 3 ∧ decodeStepDesc w = .p2Bl (stepX w) (stepY w)) ∨
    ((stepOp w).toNat = 4 ∧ decodeStepDesc w = .p3Px (stepX w) (stepY w)) := by
  unfold decodeStepDesc at h ⊢
  split at h
  case h_2 hop => exact .inl ⟨hop, splitReserved_wf (fun _ => rfl) (fun _ => rfl) (fun _ => rfl) rfl h⟩
  case h_3 hop => exact .inr (.inl ⟨hop, splitReserved_wf (fun _ => rfl) (fun _ => rfl) (fun _ => rfl) rfl h⟩)
  case h_4 hop => exact .inr (.inr (.inl ⟨hop, splitReserved_wf (fun _ => rfl) (fun _ => rfl) (fun _ => rfl) rfl h⟩))
  case h_5 hop => exact .inr (.inr (.inr ⟨hop, splitReserved_wf (fun _ => rfl) (fun _ => rfl) (fun _ => rfl) rfl h⟩))
  all_goals cases h

/-- A grown dimension has the coordinate below twice it, and fits its register (R111, R118). -/
theorem lt_two_mul_growDim (dim : BitVec 16) {v : BitVec 20} (h : v.toNat < 131070) : v.toNat < 2 * (growDim dim v).toNat := by
  unfold growDim
  split_ifs with hfit
  · exact hfit
  · rw [BitVec.toNat_ofNat]
    omega

/-- The armed state with its turn of CORE taken: what the step after the placing runs on (log 15). -/
def State.armedTurn (s : State) (p : Phase) (sp : StepPointer) : State := { s.armed p sp with inputs := s.inputs }

theorem step_armed {p : Phase} {sp : StepPointer} {i : Instr} (hi : (s.armedTurn p sp).issue = some i) :
    step (s.armed p sp) = advanceAfter (exec i (s.armedTurn p sp)) := by
  have hcore : step (s.armed p sp) = takeTurn (s.armedTurn p sp).coreTurn (s.armedTurn p sp) := rfl
  rw [hcore]
  simp only [State.coreTurn, hi, takeTurn]

/-- The armed image holds the pixel of a coordinate that fits some image (R111). -/
theorem State.armedTurn_pixelOk {p : Phase} {sp : StepPointer} (hx : coordFits sp.x = true) (hy : coordFits sp.y = true) :
    (s.armedTurn p sp).pixelOk sp.x sp.y = true :=
  (State.pixelOk_iff _ _ _).2
    ⟨lt_two_mul_growDim s.width (of_decide_eq_true hx), lt_two_mul_growDim s.height (of_decide_eq_true hy)⟩

theorem State.armedTurn_blockOk {p : Phase} {sp : StepPointer}
    (h : (coordEven sp.x && coordEven sp.y && coordFits sp.x && coordFits sp.y) = true) :
    (s.armedTurn p sp).blockOk sp.x sp.y = true := by
  simp only [Bool.and_eq_true] at h
  obtain ⟨⟨⟨hxeven, hyeven⟩, hx⟩, hy⟩ := h
  obtain ⟨hxw, hyh⟩ := (State.pixelOk_iff _ _ _).1 (State.armedTurn_pixelOk (s := s) (p := p) hx hy)
  exact (State.blockOk_iff _ _ _).2 ⟨of_decide_eq_true hxeven, of_decide_eq_true hyeven, hxw, hyh⟩

/-- Placing a well-formed descriptor arms the phase and the pointer at which the orchestrator issues its operation. -/
theorem State.placeStepDesc_of_wf {w : BitVec 48} (hwf : (decodeStepDesc w).wf = true) (s : State) :
    ∃ p sp, s.placeStepDesc w = s.armed p sp ∧ (s.armedTurn p sp).issue = some (decodeStepDesc w) ∧
      (s.armedTurn p sp).pointerOk = true := by
  rcases decodeStepDesc_of_wf hwf with ⟨hop, hi⟩ | ⟨hop, hi⟩ | ⟨hop, hi⟩ | ⟨hop, hi⟩ <;>
    simp only [State.placeStepDesc, hwf, hop, if_true] <;> rw [hi] at hwf ⊢
  · exact ⟨_, _, rfl, rfl, State.armedTurn_blockOk hwf⟩
  · exact ⟨_, _, rfl, rfl, State.armedTurn_blockOk hwf⟩
  · exact ⟨_, _, rfl, rfl, State.armedTurn_blockOk hwf⟩
  · obtain ⟨hx, hy⟩ := Bool.and_eq_true_iff.1 hwf
    exact ⟨_, _, rfl, rfl, State.armedTurn_pixelOk hx hy⟩

/-- Settles O8: the armed state with its turn of CORE taken issues the placed operation, at a pointer inside the image. -/
theorem withFetchWordIssuesTheStepOperation : Obligations.WithFetchWordIssuesTheStepOperation := by
  intro s w hwf
  obtain ⟨p, sp, hplace, hi, hptr⟩ := State.placeStepDesc_of_wf hwf s
  rw [s.withFetchWord_stepDesc, hplace]
  exact ⟨s.armedTurn p sp, hi, rfl, rfl, rfl, rfl, rfl, rfl, rfl, rfl, hptr, step_armed hi⟩

end Sys2Proof.Machine
end

section
/-! PROOFS. The step operations still ahead of a step pointer, and that each turn of CORE issues the first of them and leaves the
others (44_passes.md R250, R252, R255, R257, R270). -/

namespace Sys2Proof.Machine

variable {s : State}

/-- One row of block origins (R252). -/
def blockRow (w r : Nat) : List (BitVec 20 × BitVec 20) :=
  (List.range w).map fun c => (BitVec.ofNat 20 (2 * c), BitVec.ofNat 20 (2 * r))

/-- The block origins of a forward scan from block (c, r) on. -/
def blocksFrom (w h c r : Nat) : List (BitVec 20 × BitVec 20) :=
  (List.range' c (w - c)).map (fun c => (BitVec.ofNat 20 (2 * c), BitVec.ofNat 20 (2 * r))) ++
    (List.range' (r + 1) (h - (r + 1))).flatMap (blockRow w)

theorem blocksFrom_cons {w c : Nat} (hc : c < w) (h r : Nat) :
    blocksFrom w h c r = (BitVec.ofNat 20 (2 * c), BitVec.ofNat 20 (2 * r)) :: blocksFrom w h (c + 1) r := by
  obtain ⟨n, hn⟩ : ∃ n, w - c = n + 1 := ⟨w - c - 1, by omega⟩
  have hn' : w - (c + 1) = n := by omega
  simp only [blocksFrom, hn, hn', List.range'_succ, List.map_cons, List.cons_append]

/-- After the last block of a row comes the first of the next. -/
theorem blocksFrom_rowEnd {h r : Nat} (hr : r + 1 < h) (w : Nat) : blocksFrom w h w r = blocksFrom w h 0 (r + 1) := by
  obtain ⟨n, hn⟩ : ∃ n, h - (r + 1) = n + 1 := ⟨h - (r + 1) - 1, by omega⟩
  have hn' : h - (r + 1 + 1) = n := by omega
  simp [blocksFrom, hn, hn', List.range'_succ, List.range_eq_range', blockRow]

theorem blocksFrom_lastRowEnd (w r : Nat) : blocksFrom w (r + 1) w r = [] := by
  simp [blocksFrom]

theorem blocksFrom_start {h : Nat} (hh : 1 ≤ h) (w : Nat) : blocksFrom w h 0 0 = forwardBlocks w h := by
  obtain ⟨n, rfl⟩ := Nat.exists_eq_add_of_le' hh
  have hrows : forwardBlocks w (n + 1) = (List.range (n + 1)).flatMap (blockRow w) := rfl
  rw [hrows, List.range_eq_range', List.range'_succ, List.flatMap_cons, blockRow, List.range_eq_range']
  rfl

/-- One row of pixels, backward from column x (R257). -/
def pixelRowBack (x y : Nat) : List (BitVec 20 × BitVec 20) :=
  (List.range (x + 1)).reverse.map fun x => (BitVec.ofNat 20 x, BitVec.ofNat 20 y)

/-- The pixels of the backward scan from (x, y) on, in an image whose last column is `last`. -/
def pixelsFrom (last x : Nat) : Nat → List (BitVec 20 × BitVec 20)
  | 0 => pixelRowBack x 0
  | y + 1 => pixelRowBack x (y + 1) ++ pixelsFrom last last y

theorem pixelRowBack_succ (x y : Nat) :
    pixelRowBack (x + 1) y = (BitVec.ofNat 20 (x + 1), BitVec.ofNat 20 y) :: pixelRowBack x y := by
  simp only [pixelRowBack, List.range_succ (n := x + 1), List.reverse_append, List.reverse_singleton, List.singleton_append,
    List.map_cons]

theorem pixelsFrom_succ (last x y : Nat) :
    pixelsFrom last (x + 1) y = (BitVec.ofNat 20 (x + 1), BitVec.ofNat 20 y) :: pixelsFrom last x y := by
  cases y <;> simp only [pixelsFrom, pixelRowBack_succ, List.cons_append]

/-- After the first column of a row comes the last of the row above. -/
theorem pixelsFrom_rowEnd (last y : Nat) :
    pixelsFrom last 0 (y + 1) = (0#20, BitVec.ofNat 20 (y + 1)) :: pixelsFrom last last y := rfl

theorem pixelsFrom_last (last : Nat) : pixelsFrom last 0 0 = [(0#20, 0#20)] := rfl

theorem pixelsFrom_start (last n : Nat) : pixelsFrom last last n =
    (List.range (n + 1)).reverse.flatMap (pixelRowBack last) := by
  induction n with
  | zero => simp [pixelsFrom]
  | succ n ih =>
    rw [pixelsFrom, ih, List.range_succ (n := n + 1), List.reverse_append, List.reverse_singleton, List.singleton_append,
      List.flatMap_cons]

theorem pixelsFrom_eq_backwardPixels {w h : Nat} (hw : 1 ≤ w) (hh : 1 ≤ h) :
    pixelsFrom (2 * w - 1) (2 * w - 1) (2 * h - 1) = backwardPixels w h := by
  have hlast {n : Nat} (hn : 1 ≤ n) : 2 * n - 1 + 1 = 2 * n := by omega
  rw [pixelsFrom_start, hlast hh]
  refine congrArg (fun row => List.flatMap row (List.range (2 * h)).reverse) (funext fun y => ?_)
  rw [pixelRowBack, hlast hw]

/-- The two step operations of a block in pass 2 (R252). -/
def pass2Pair (b : BitVec 20 × BitVec 20) : List Instr := [.p2Tr b.1 b.2, .p2Bl b.1 b.2]

/-- Pass 3 as a whole (R255, R257). -/
def pass3Steps (w h : Nat) : List Instr := (backwardPixels w h).map fun b => .p3Px b.1 b.2

/-- The block origins of a W by H image from (x, y) on. -/
def blocksAhead (w h : Nat) (x y : BitVec 20) : List (BitVec 20 × BitVec 20) := blocksFrom w h (x.toNat / 2) (y.toNat / 2)

/-- The pixels of an image of width W from (x, y) backward. -/
def pixelsAhead (w : Nat) (x y : BitVec 20) : List (BitVec 20 × BitVec 20) := pixelsFrom (2 * w - 1) x.toNat y.toNat

/-- The step operations that a run has still to issue, from its PHASE and SP on (R250, R270). -/
def State.ahead (s : State) : List Instr :=
  match s.phase, s.sp.sub with
  | .idle, _ => []
  | .p1, _ => (blocksAhead s.width.toNat s.height.toNat s.sp.x s.sp.y).map (fun b => .p1Blk b.1 b.2) ++
      ((forwardBlocks s.width.toNat s.height.toNat).flatMap pass2Pair ++ pass3Steps s.width.toNat s.height.toNat)
  | .p2, .tr => (blocksAhead s.width.toNat s.height.toNat s.sp.x s.sp.y).flatMap pass2Pair ++
      pass3Steps s.width.toNat s.height.toNat
  | .p2, .bl => ((blocksAhead s.width.toNat s.height.toNat s.sp.x s.sp.y).flatMap pass2Pair).tail ++
      pass3Steps s.width.toNat s.height.toNat
  | .p3, _ => (pixelsAhead s.width.toNat s.sp.x s.sp.y).map fun b => .p3Px b.1 b.2

/-- Pass 2 entered at its first block has all of its steps ahead, and pass 3 (R270). -/
theorem State.ahead_enterPass2 (hh : 1 ≤ s.height.toNat) : (s.enterPass .p2 scanStart).ahead =
    (forwardBlocks s.width.toNat s.height.toNat).flatMap pass2Pair ++ pass3Steps s.width.toNat s.height.toNat := by
  rw [← blocksFrom_start hh]
  simp [State.ahead, blocksAhead, scanStart]

theorem State.ahead_enterPass3 (hw : 1 ≤ s.width.toNat) (hh : 1 ≤ s.height.toNat) :
    (s.enterPass .p3 s.backwardStart).ahead = pass3Steps s.width.toNat s.height.toNat := by
  have hlast (n : BitVec 16) : (BitVec.ofNat 20 (2 * n.toNat - 1)).toNat = 2 * n.toNat - 1 := by
    have hn := n.isLt
    exact coord_toNat (by omega)
  rw [pass3Steps, ← pixelsFrom_eq_backwardPixels hw hh]
  simp only [State.ahead, pixelsAhead, State.enterPass_phase, State.enterPass_sp, State.enterPass_width, State.backwardStart,
    State.outWidth, State.outHeight, hlast]

/-- The block scan goes to a block inside the image, the next of those ahead, or enters the next pass after the last. -/
theorem State.nextBlock_blocksAhead (hok : s.blockOk s.sp.x s.sp.y = true) (next : Phase) (entry : StepPointer) :
    (∃ x y, s.nextBlock next entry = { s with sp := ⟨x, y, s.sp.sub⟩ } ∧ s.blockOk x y = true ∧
      blocksAhead s.width.toNat s.height.toNat s.sp.x s.sp.y =
        (s.sp.x, s.sp.y) :: blocksAhead s.width.toNat s.height.toNat x y) ∨
    (s.nextBlock next entry = s.enterPass next entry ∧
      blocksAhead s.width.toNat s.height.toNat s.sp.x s.sp.y = [(s.sp.x, s.sp.y)]) := by
  obtain ⟨hright, hdown, hlast⟩ := State.nextBlock_eq hok next entry
  obtain ⟨hxeven, hyeven, hx, hy⟩ := (s.blockOk_iff _ _).1 hok
  have hw := s.width.isLt
  have hh := s.height.isLt
  have heven {v : BitVec 20} (hv : v.toNat % 2 = 0) : BitVec.ofNat 20 (2 * (v.toNat / 2)) = v :=
    coord_ofNat (Nat.mul_div_cancel' (Nat.dvd_of_mod_eq_zero hv)).symm
  rw [blocksAhead, blocksFrom_cons (by omega), heven hxeven, heven hyeven]
  rcases Nat.lt_or_ge (s.sp.x.toNat + 2) (2 * s.width.toNat) with hcol | hcol
  · refine .inl ⟨_, _, hright hcol, ?_, ?_⟩
    · rw [State.blockOk_iff, coord_toNat (by omega)]
      omega
    · rw [blocksAhead, coord_toNat (by omega), Nat.add_div_right _ two_pos]
  · have hcol : s.sp.x.toNat + 2 = 2 * s.width.toNat := by omega
    have hrowEnd : s.sp.x.toNat / 2 + 1 = s.width.toNat := by omega
    rw [hrowEnd]
    rcases Nat.lt_or_ge (s.sp.y.toNat + 2) (2 * s.height.toNat) with hrow | hrow
    · refine .inl ⟨_, _, hdown hcol hrow, ?_, ?_⟩
      · rw [State.blockOk_iff, coord_toNat (by omega), BitVec.toNat_ofNat]
        omega
      · rw [blocksAhead, coord_toNat (n := s.sp.y.toNat + 2) (by omega), Nat.add_div_right _ two_pos,
          blocksFrom_rowEnd (by omega)]
        rfl
    · have hrow : s.sp.y.toNat + 2 = 2 * s.height.toNat := by omega
      have hlastRow : s.height.toNat = s.sp.y.toNat / 2 + 1 := by omega
      refine .inr ⟨hlast hcol hrow, ?_⟩
      rw [hlastRow, blocksFrom_lastRowEnd]

/-- CORE issues the first operation ahead, and its advance leaves the others ahead, at a pointer inside the image (R270). -/
structure State.IssuesAhead (s : State) : Prop where
  issue : s.issue = s.ahead.head?
  advance : s.advance.ahead = s.ahead.tail
  pointer : s.advance.pointerOk = true

theorem State.issuesAhead_p1 (hp : s.phase = .p1) (hok : s.blockOk s.sp.x s.sp.y = true) : s.IssuesAhead := by
  obtain ⟨_, _, hx, hy⟩ := (s.blockOk_iff _ _).1 hok
  rcases State.nextBlock_blocksAhead hok .p2 scanStart with ⟨x, y, hnext, hq, hcons⟩ | ⟨hnext, hlast⟩ <;>
    rw [← State.advance_p1 hp] at hnext
  · refine ⟨?_, ?_, ?_⟩
    · simp [State.issue, State.ahead, hp, hcons]
    · simp [hnext, State.ahead, hp, hcons]
    · rw [hnext]
      exact (State.pointerOk_of_block (s := { s with sp := ⟨x, y, s.sp.sub⟩ }) (.inl hp)).trans hq
  · refine ⟨?_, ?_, ?_⟩
    · simp [State.issue, State.ahead, hp, hlast]
    · rw [hnext, State.ahead_enterPass2 (by omega)]
      simp [State.ahead, hp, hlast]
    · rw [hnext]
      exact State.scanStart_blockOk (s := s) (by omega) (by omega)

theorem State.issuesAhead_p2_tr (hp : s.phase = .p2) (hsub : s.sp.sub = .tr) (hok : s.blockOk s.sp.x s.sp.y = true) :
    s.IssuesAhead := by
  have hcons : ∃ bs, blocksAhead s.width.toNat s.height.toNat s.sp.x s.sp.y = (s.sp.x, s.sp.y) :: bs := by
    rcases State.nextBlock_blocksAhead hok .p3 s.backwardStart with ⟨_, _, _, _, hcons⟩ | ⟨_, hlast⟩
    · exact ⟨_, hcons⟩
    · exact ⟨_, hlast⟩
  obtain ⟨bs, hcons⟩ := hcons
  refine ⟨?_, ?_, ?_⟩
  · simp [State.issue, State.ahead, hp, hsub, hcons, pass2Pair]
  · simp [State.advance_p2_tr hp hsub, State.ahead, hp, hsub, hcons, pass2Pair]
  · rw [State.advance_p2_tr hp hsub]
    exact (State.pointerOk_of_block (.inr hp)).trans hok

theorem State.issuesAhead_p2_bl (hp : s.phase = .p2) (hsub : s.sp.sub = .bl) (hok : s.blockOk s.sp.x s.sp.y = true) :
    s.IssuesAhead := by
  obtain ⟨_, _, hx, hy⟩ := (s.blockOk_iff _ _).1 hok
  rcases State.nextBlock_blocksAhead (s := { s with sp := ⟨s.sp.x, s.sp.y, .tr⟩ }) hok .p3 s.backwardStart with
    ⟨x, y, hnext, hq, hcons⟩ | ⟨hnext, hlast⟩ <;>
    rw [← State.advance_p2_bl hp hsub] at hnext
  · refine ⟨?_, ?_, ?_⟩
    · simp [State.issue, State.ahead, hp, hsub, hcons, pass2Pair]
    · simp [hnext, State.ahead, hp, hsub, hcons, pass2Pair]
    · rw [hnext]
      exact (State.pointerOk_of_block (s := { s with sp := ⟨x, y, .tr⟩ }) (.inr hp)).trans hq
  · refine ⟨?_, ?_, ?_⟩
    · simp [State.issue, State.ahead, hp, hsub, hlast, pass2Pair]
    · refine (congrArg State.ahead hnext).trans ((s.ahead_enterPass3 (by omega) (by omega)).trans ?_)
      simp [State.ahead, hp, hsub, hlast, pass2Pair]
    · rw [hnext]
      exact State.backwardStart_pixelOk (s := s) (by omega) (by omega)

/-- The backward scan goes to a pixel inside the image, the next of those ahead, or completes after the last (R257, R270). -/
theorem State.advance_pixelsAhead (hp : s.phase = .p3) (hok : s.pixelOk s.sp.x s.sp.y = true) :
    (∃ x y, s.advance = { s with sp := ⟨x, y, s.sp.sub⟩ } ∧ s.pixelOk x y = true ∧
      pixelsAhead s.width.toNat s.sp.x s.sp.y = (s.sp.x, s.sp.y) :: pixelsAhead s.width.toNat x y) ∨
    (s.advance = s.complete ∧ pixelsAhead s.width.toNat s.sp.x s.sp.y = [(s.sp.x, s.sp.y)]) := by
  obtain ⟨hleft, hup, hdone⟩ := State.advance_p3 hp
  obtain ⟨hx, hy⟩ := (s.pixelOk_iff _ _).1 hok
  have hw := s.width.isLt
  unfold pixelsAhead
  cases hcol : s.sp.x.toNat with
  | succ n =>
    refine .inl ⟨_, _, hleft (by omega), ?_, ?_⟩
    · rw [State.pixelOk_iff, coord_toNat (by omega)]
      omega
    · rw [hcol, coord_toNat (by omega), pixelsFrom_succ, coord_ofNat hcol, coord_ofNat rfl]
      rfl
  | zero =>
    cases hrow : s.sp.y.toNat with
    | succ n =>
      refine .inl ⟨_, _, hup hcol (by omega), ?_, ?_⟩
      · unfold State.outWidth
        rw [State.pixelOk_iff, coord_toNat (by omega), coord_toNat (by omega)]
        omega
      · unfold State.outWidth
        rw [hrow, coord_toNat (by omega), coord_toNat (by omega), pixelsFrom_rowEnd, coord_ofNat hcol, coord_ofNat hrow]
        rfl
    | zero =>
      refine .inr ⟨hdone hcol hrow, ?_⟩
      rw [pixelsFrom_last, ← coord_ofNat hcol, ← coord_ofNat hrow]

theorem State.issuesAhead_p3 (hp : s.phase = .p3) (hok : s.pixelOk s.sp.x s.sp.y = true) : s.IssuesAhead := by
  rcases State.advance_pixelsAhead hp hok with ⟨x, y, hadvance, hq, hcons⟩ | ⟨hadvance, hlast⟩
  · refine ⟨?_, ?_, ?_⟩
    · simp [State.issue, State.ahead, hp, hcons]
    · simp [hadvance, State.ahead, hp, hcons]
    · rw [hadvance]
      exact (State.pointerOk_of_pixel (s := { s with sp := ⟨x, y, s.sp.sub⟩ }) hp).trans hq
  · refine ⟨?_, ?_, ?_⟩
    · simp [State.issue, State.ahead, hp, hlast]
    · simp [hadvance, State.ahead, hp, hlast]
    · rw [hadvance]
      rfl

/-- Wherever the step pointer lies inside the image, CORE works off the operations ahead (R270). -/
theorem State.issuesAhead (hptr : s.pointerOk = true) : s.IssuesAhead := by
  cases hp : s.phase with
  | idle =>
    have hadvance : s.advance = s := by simp only [State.advance, hp]
    refine ⟨?_, ?_, hadvance.symm ▸ hptr⟩
    · simp only [State.issue, State.ahead, hp, List.head?_nil]
    · simp only [hadvance, State.ahead, hp, List.tail_nil]
  | p1 => exact State.issuesAhead_p1 hp (State.pointerOk_of_block (.inl hp) ▸ hptr)
  | p2 =>
    have hok := State.pointerOk_of_block (.inr hp) ▸ hptr
    cases hsub : s.sp.sub with
    | tr => exact State.issuesAhead_p2_tr hp hsub hok
    | bl => exact State.issuesAhead_p2_bl hp hsub hok
  | p3 => exact State.issuesAhead_p3 hp (State.pointerOk_of_pixel hp ▸ hptr)

/-- Nothing is ahead exactly when PHASE is IDLE. -/
theorem State.ahead_eq_nil_iff (hptr : s.pointerOk = true) : s.ahead = [] ↔ s.phase = .idle := by
  rw [← List.head?_eq_none_iff, ← (State.issuesAhead hptr).issue]
  unfold State.issue
  split <;> simp [*]

end Sys2Proof.Machine
end

section
/-! PROOFS. A run with only turns of CORE to come, as one function of its state: each turn writes the words of the operation
issued and advances, for 7*W*H turns (44_passes.md R270, R273, R277). -/

namespace Sys2Proof.Machine

variable {s t : State}

/-- A run with only turns of CORE to come, or one that has completed. -/
structure State.InRun (s : State) : Prop where
  config : s.configOk = true
  pointer : s.pointerOk = true
  turns : s.inputs = []
  completed : s.phase = .idle → s.done = true

/-- The DST writes of the step operation that CORE issues next (R251, R253, R254, R256). -/
def State.stepWrites (s : State) : List (Nat × Word) :=
  match s.phase, s.sp.sub with
  | .idle, _ => []
  | .p1, _ => s.blockWrites s.sp.x.toNat s.sp.y.toNat
  | .p2, .tr => [(s.cellIndex (s.sp.x.toNat + 1) s.sp.y.toNat, s.newPixel .p2a wpP2 wab34 s.sp.x.toNat s.sp.y.toNat)]
  | .p2, .bl => [(s.cellIndex s.sp.x.toNat (s.sp.y.toNat + 1), s.newPixel .p2b wpP2 wab34 s.sp.x.toNat s.sp.y.toNat)]
  | .p3, _ => [(s.cellIndex s.sp.x.toNat s.sp.y.toNat, s.newPixel .p3 wpFull wab12 s.sp.x.toNat s.sp.y.toNat)]

/-- The state after a turn of CORE in a run. -/
def State.coreStep (s : State) : State := (s.dstWrites s.stepWrites).advance

/-- The writes of a turn go to DST alone, and the advance does not read it. -/
theorem State.coreStep_eq (s : State) : s.coreStep = s.advance.withMemory s.src (s.dstWrites s.stepWrites).dst := by
  rw [State.coreStep, ← State.advance_withMemory]
  exact congrArg State.advance (s.dstWrites_frame _)

namespace State.InRun

/-- The operation that CORE issues in a run completes with its writes: the image fits and the pointer lies inside it. -/
theorem exec_issue (h : s.InRun) {i : Instr} (hi : s.issue = some i) :
    Machine.exec i s = .next (s.dstWrites s.stepWrites) := by
  obtain ⟨_, _, _, hfit⟩ := s.configOk_iff.1 h.config
  have hptr := h.pointer
  unfold State.issue at hi
  unfold State.pointerOk at hptr
  unfold State.stepWrites
  split at hi <;> cases hi <;> simp only [*] at hptr ⊢
  · exact exec_p1Blk_blockWrites hptr hfit
  · exact exec_p2Tr_fits hptr hfit
  · exact exec_p2Bl_fits hptr hfit
  · exact exec_p3Px_fits hptr hfit

end State.InRun

theorem State.issue_eq_none_iff : s.issue = none ↔ s.phase = .idle := by
  unfold State.issue
  split <;> simp [*]

theorem State.coreStep_of_idle (hp : s.phase = .idle) : s.coreStep = s := by
  simp only [State.coreStep, State.stepWrites, State.advance, hp, State.dstWrites_nil]

theorem State.nextBlock_phase_ne {next : Phase} (hp : s.phase ≠ .idle) (hnext : next ≠ .idle) (entry : StepPointer) :
    (s.nextBlock next entry).phase ≠ .idle := by
  unfold State.nextBlock
  split
  · exact hnext
  · exact hp

/-- A run reaches IDLE by completion only, which sets DONE (R272). -/
theorem State.advance_done (hp : s.phase ≠ .idle) (h : s.advance.phase = .idle) : s.advance.done = true := by
  cases hphase : s.phase with
  | idle => exact absurd hphase hp
  | p1 =>
    rw [State.advance_p1 hphase] at h
    exact absurd h (State.nextBlock_phase_ne hp (by decide) _)
  | p2 =>
    cases hsub : s.sp.sub with
    | tr =>
      rw [State.advance_p2_tr hphase hsub] at h
      exact absurd h hp
    | bl =>
      rw [State.advance_p2_bl hphase hsub] at h
      exact absurd h (State.nextBlock_phase_ne (s := { s with sp := ⟨s.sp.x, s.sp.y, .tr⟩ }) hp (by decide) _)
  | p3 =>
    simp only [State.advance, hphase] at h ⊢
    split_ifs at h ⊢
    rfl

theorem State.ahead_coreStep (hptr : s.pointerOk = true) : s.coreStep.ahead = s.ahead.tail := by
  rw [State.coreStep_eq]
  exact (State.issuesAhead hptr).advance

namespace State.InRun

theorem step_eq (h : s.InRun) : step s = .next s.coreStep := by
  cases hi : s.issue with
  | none =>
    have hp := State.issue_eq_none_iff.1 hi
    rw [step_of_idle hp h.turns, State.coreStep_of_idle hp]
  | some i => exact step_of_issue h.turns hi (h.exec_issue hi)

theorem coreStep (h : s.InRun) : s.coreStep.InRun := by
  by_cases hp : s.phase = .idle
  · rwa [State.coreStep_of_idle hp]
  rw [State.coreStep_eq]
  refine ⟨?_, (State.issuesAhead h.pointer).pointer, ?_, fun hidle => State.advance_done hp hidle⟩
  · rw [State.advance_frame]
    exact h.config
  · rw [State.advance_frame]
    exact h.turns

theorem iterate (h : s.InRun) (n : Nat) : (State.coreStep^[n] s).InRun := by
  induction n with
  | zero => exact h
  | succ n ih =>
    rw [Function.iterate_succ_apply']
    exact ih.coreStep

/-- A run with only turns of CORE to come never stops: n steps are n turns of CORE. -/
theorem run_eq (h : s.InRun) (n : Nat) : Host.Core.run core n s = .next (State.coreStep^[n] s) := by
  induction n generalizing s with
  | zero => rfl
  | succ n ih =>
    have hstep : core.step s = .next s.coreStep := h.step_eq
    simp only [Host.Core.run, hstep]
    exact ih h.coreStep

theorem ahead_iterate (h : s.InRun) (n : Nat) : (State.coreStep^[n] s).ahead = s.ahead.drop n := by
  induction n with
  | zero => rfl
  | succ n ih => rw [Function.iterate_succ_apply', State.ahead_coreStep (h.iterate n).pointer, ih, List.tail_drop]

/-- What CORE issues in n turns are the first n operations ahead. -/
theorem issuedIn_eq (h : s.InRun) (n : Nat) : s.issuedIn n = s.ahead.take n := by
  induction n generalizing s with
  | zero => rfl
  | succ n ih =>
    have hissue := (State.issuesAhead h.pointer).issue
    have htail := State.ahead_coreStep h.pointer
    cases hahead : s.ahead with
    | nil =>
      rw [hahead] at hissue
      simp only [State.issuedIn, hissue, List.head?_nil, List.take_nil]
    | cons i l =>
      rw [hahead] at hissue htail
      simp only [State.issuedIn, hissue, List.head?_cons, h.step_eq, ih h.coreStep, htail, List.tail_cons, List.take_succ_cons]

end State.InRun

theorem State.AtRunStart.inRun (h : s.AtRunStart) : s.InRun := by
  obtain ⟨hw, hh, _, _⟩ := s.configOk_iff.1 h.config
  refine ⟨h.config, ?_, h.turns, fun hidle => ?_⟩
  · rw [State.pointerOk_of_block (.inl h.phase), h.pointer]
    exact State.scanStart_blockOk hw hh
  · rw [h.phase] at hidle
    cases hidle

/-- At the start of a run its three passes are ahead. -/
theorem State.AtRunStart.ahead_eq (h : s.AtRunStart) : s.ahead = runOrder s.width.toNat s.height.toNat := by
  obtain ⟨_, hh, _, _⟩ := s.configOk_iff.1 h.config
  have hscan : blocksAhead s.width.toNat s.height.toNat s.sp.x s.sp.y = forwardBlocks s.width.toNat s.height.toNat := by
    rw [h.pointer, ← blocksFrom_start hh]
    simp [blocksAhead, scanStart]
  simp only [State.ahead, h.phase, hscan, ← List.append_assoc]
  rfl

theorem length_forwardBlocks (w h : Nat) : (forwardBlocks w h).length = w * h := by
  simp [forwardBlocks, Nat.mul_comm]

theorem length_pass2 (w h : Nat) :
    ((forwardBlocks w h).flatMap fun b => [Instr.p2Tr b.1 b.2, Instr.p2Bl b.1 b.2]).length = 2 * (w * h) := by
  simp [List.length_flatMap, length_forwardBlocks, Nat.mul_comm]

theorem length_backwardPixels (w h : Nat) : (backwardPixels w h).length = 4 * (w * h) := by
  have harea : 2 * h * (2 * w) = 4 * (w * h) := by ring
  simp [backwardPixels, harea]

theorem length_runOrder (w h : Nat) : (runOrder w h).length = 7 * (w * h) := by
  rw [runOrder, List.length_append, List.length_append, List.length_map, List.length_map, length_pass2,
    length_forwardBlocks, length_backwardPixels]
  ring

theorem State.AtRunStart.length_ahead (h : s.AtRunStart) : s.ahead.length = 7 * (s.width.toNat * s.height.toNat) := by
  rw [h.ahead_eq, length_runOrder]

/-- Settles O46: the operations ahead at the start are those of the loops, and each turn issues the first of them. -/
theorem runIssuesTheLoopsInOrder : Obligations.RunIssuesTheLoopsInOrder := by
  intro s h
  refine ⟨?_, length_pass2 _ _⟩
  rw [h.inRun.issuedIn_eq, ← h.length_ahead, List.take_length, h.ahead_eq]

/-- What a run changes: PHASE, the pointer, WP, WAB, DONE, and DST below 4*W*H (R275). -/
structure State.RunFrame (s t : State) : Prop where
  rest : t = { s with done := t.done, phase := t.phase, sp := t.sp, wp := t.wp, wab := t.wab, dst := t.dst }
  beyond : ∀ k, 4 * (s.width.toNat * s.height.toNat) ≤ k → t.dstRead k = s.dstRead k

namespace State.RunFrame

theorem refl (s : State) : s.RunFrame s := ⟨rfl, fun _ _ => rfl⟩

theorem trans {u : State} (h : s.RunFrame t) (h' : t.RunFrame u) : s.RunFrame u := by
  refine ⟨?_, fun k hk => (h'.beyond k ?_).trans (h.beyond k hk)⟩
  · rw [h'.rest, h.rest]
  · rw [h.rest]
    exact hk

end State.RunFrame

theorem State.InRun.frame_coreStep (h : s.InRun) : s.RunFrame s.coreStep := by
  refine ⟨?_, fun k hk => ?_⟩
  · rw [State.coreStep_eq, State.advance_frame]
    rfl
  · cases hi : s.issue with
    | none => rw [State.coreStep_of_idle (State.issue_eq_none_iff.1 hi)]
    | some i =>
      rw [State.coreStep, State.advance_dstRead]
      exact (stepsWriteOnlyTheImage i s _ (State.isStepOperation_of_issue hi) (h.exec_issue hi)).2 k hk

theorem State.InRun.frame_iterate (h : s.InRun) (n : Nat) : s.RunFrame (State.coreStep^[n] s) := by
  induction n with
  | zero => exact .refl s
  | succ n ih =>
    rw [Function.iterate_succ_apply']
    exact ih.trans (h.iterate n).frame_coreStep

/-- After 7*W*H turns nothing is ahead. -/
theorem State.AtRunStart.idle_iterate (h : s.AtRunStart) :
    (State.coreStep^[7 * (s.width.toNat * s.height.toNat)] s).phase = .idle := by
  rw [← State.ahead_eq_nil_iff (h.inRun.iterate _).pointer, h.inRun.ahead_iterate, ← h.length_ahead, List.drop_length]

/-- Settles O47: before 7*W*H turns operations are ahead, so the machine is busy; then none is, and it has completed. -/
theorem runTakesSevenWHSteps : Obligations.RunTakesSevenWHSteps := by
  intro s h
  refine ⟨fun n hn => ⟨_, h.inRun.run_eq n, ?_⟩, _, h.inRun.run_eq _, h.idle_iterate,
    (h.inRun.iterate _).completed h.idle_iterate, ?_⟩
  · rw [State.busy_eq, Ne, ← State.ahead_eq_nil_iff (h.inRun.iterate n).pointer, h.inRun.ahead_iterate, List.drop_eq_nil_iff,
      h.length_ahead]
    exact hn.not_ge
  · rw [(h.inRun.frame_iterate _).rest]
    exact ⟨rfl, rfl, rfl, rfl, rfl⟩

end Sys2Proof.Machine
end

section
/-! PROOFS. The result of a run depends on the source words alone: two runs of the same size over the same source write the same
words at the same pointer, and pass 1 writes every cell of the image (44_passes.md R251, R276). -/

namespace Sys2Proof.Machine

variable {s t : State}

/-- A new pixel depends on the words that its gather reads. -/
theorem State.newPixel_congr {pat : Pattern} {x y : Nat}
    (h : ∀ i j, s.bufferRead (bufferOf pat)
        (gatherIndex pat (s.bufferWidth (bufferOf pat)) (s.bufferHeight (bufferOf pat)) x y i j) =
      t.bufferRead (bufferOf pat)
        (gatherIndex pat (t.bufferWidth (bufferOf pat)) (t.bufferHeight (bufferOf pat)) x y i j))
    (wp : WeightVector) (wab : CoeffPair) : s.newPixel pat wp wab x y = t.newPixel pat wp wab x y := by
  have hgather : s.gather pat x y = t.gather pat x y := congrArg matricesOf (funext fun i => funext fun j => h i j)
  rw [State.newPixel, State.newPixel, hgather]

/-- The same writes leave the same word at every index they name, and at every other where the words were the same before. -/
theorem State.dstRead_dstWrites_congr {ws : List (Nat × Word)} {k : Nat}
    (h : k ∈ ws.map Prod.fst ∨ s.dstRead k = t.dstRead k) : (s.dstWrites ws).dstRead k = (t.dstWrites ws).dstRead k := by
  induction ws generalizing s t with
  | nil => simpa using h
  | cons w ws ih =>
    rw [State.dstWrites_cons, State.dstWrites_cons]
    apply ih
    by_cases hk : k = w.1
    · exact .inr (by rw [hk, State.dstRead_dstWrite_same, State.dstRead_dstWrite_same])
    · rw [State.dstRead_dstWrite_other _ _ hk, State.dstRead_dstWrite_other _ _ hk]
      exact h.imp_left fun hmem => (List.mem_cons.1 hmem).resolve_left hk

theorem State.nextBlock_congr (hw : s.width = t.width) (hh : s.height = t.height) (hphase : s.phase = t.phase)
    (hsp : s.sp = t.sp) (next : Phase) (entry : StepPointer) :
    (s.nextBlock next entry).phase = (t.nextBlock next entry).phase ∧
    (s.nextBlock next entry).sp = (t.nextBlock next entry).sp := by
  have horigin : s.nextOrigin = t.nextOrigin := by
    unfold State.nextOrigin State.outWidth
    rw [hw, hsp]
  unfold State.nextBlock State.outHeight
  rw [horigin, hh]
  split
  · exact ⟨rfl, rfl⟩
  · exact ⟨hphase, by rw [hsp]⟩

/-- Where a run goes next depends on where it is and on the size of the image (R270). -/
theorem State.advance_congr (hw : s.width = t.width) (hh : s.height = t.height) (hphase : s.phase = t.phase)
    (hsp : s.sp = t.sp) : s.advance.phase = t.advance.phase ∧ s.advance.sp = t.advance.sp := by
  have hstart : s.backwardStart = t.backwardStart := by
    simp only [State.backwardStart, State.outWidth, State.outHeight, hw, hh]
  unfold State.advance
  rw [hphase, hsp, hstart]
  split
  · exact ⟨hphase, hsp⟩
  · exact State.nextBlock_congr hw hh hphase hsp _ _
  · exact ⟨rfl, rfl⟩
  · exact State.nextBlock_congr (s := { s with phase := t.phase, sp := ⟨t.sp.x, t.sp.y, .tr⟩ })
      (t := { t with sp := ⟨t.sp.x, t.sp.y, .tr⟩ }) hw hh rfl rfl _ _
  · unfold State.outWidth
    rw [hw]
    split_ifs
    · exact ⟨rfl, rfl⟩
    · exact ⟨rfl, rfl⟩
    · exact ⟨rfl, hsp⟩

/-- The cell of index k lies in a block that pass 1 has done when SP stands at its next block. -/
def State.BlockDone (s : State) (k : Nat) : Prop :=
  k / s.outWidth < s.sp.y.toNat ∨ k / s.outWidth < s.sp.y.toNat + 2 ∧ k % s.outWidth < s.sp.x.toNat

/-- The run has written the word of index k: in pass 1 the cells of the blocks done, afterwards every cell of the image. -/
def State.Computed (s : State) (k : Nat) : Prop :=
  k < 4 * (s.width.toNat * s.height.toNat) ∧ (s.phase = .p1 → s.BlockDone k)

/-- Two runs at the same point, over the same source, whose computed words agree. -/
structure State.SameRun (s t : State) : Prop where
  left : s.InRun
  right : t.InRun
  phase : s.phase = t.phase
  sp : s.sp = t.sp
  source : s.SameSource t
  computed : ∀ k, s.Computed k → s.dstRead k = t.dstRead k

/-- An index below OW*OH is that of a cell of the image. -/
theorem State.image_index {k : Nat} (hk : k < 4 * (s.width.toNat * s.height.toNat)) :
    k % s.outWidth < s.outWidth ∧ k / s.outWidth < s.outHeight ∧ k = s.cellIndex (k % s.outWidth) (k / s.outWidth) := by
  rw [← s.dstBuffer_area] at hk
  have hpos : 0 < s.outWidth := Nat.pos_of_mul_pos_right (Nat.zero_lt_of_lt hk)
  exact ⟨Nat.mod_lt _ hpos, Nat.div_lt_of_lt_mul hk, (Nat.div_add_mod' k s.outWidth).symm⟩

/-- A cell of the image that the advance of pass 1 counts as done lies in a block done before or in the present one (R252). -/
theorem State.blockDone_advance (hp : s.phase = .p1) (hok : s.blockOk s.sp.x s.sp.y = true) {k : Nat}
    (hk : k < 4 * (s.width.toNat * s.height.toNat)) (h : s.advance.phase = .p1 → s.advance.BlockDone k) :
    s.BlockDone k ∨ (k % s.outWidth = s.sp.x.toNat ∨ k % s.outWidth = s.sp.x.toNat + 1) ∧
      (k / s.outWidth = s.sp.y.toNat ∨ k / s.outWidth = s.sp.y.toNat + 1) := by
  obtain ⟨_, _, hx, hy⟩ := (s.blockOk_iff _ _).1 hok
  have hw := s.width.isLt
  have hh := s.height.isLt
  obtain ⟨hcol, hrow, _⟩ := State.image_index hk
  obtain ⟨hright, hdown, hlast⟩ := State.nextBlock_eq hok .p2 scanStart
  rw [State.advance_p1 hp] at h
  suffices hreached : k / s.outWidth < s.sp.y.toNat ∨
      k / s.outWidth < s.sp.y.toNat + 2 ∧ k % s.outWidth < s.sp.x.toNat + 2 by
    unfold State.BlockDone
    omega
  have hwidth : s.outWidth = 2 * s.width.toNat := rfl
  have hheight : s.outHeight = 2 * s.height.toNat := rfl
  rcases Nat.lt_or_ge (s.sp.x.toNat + 2) (2 * s.width.toNat) with hcolumn | hcolumn
  · rw [hright hcolumn] at h
    have hdone : k / s.outWidth < s.sp.y.toNat ∨ k / s.outWidth < s.sp.y.toNat + 2 ∧
      k % s.outWidth < (BitVec.ofNat 20 (s.sp.x.toNat + 2)).toNat := h hp
    rwa [coord_toNat (by omega)] at hdone
  · rcases Nat.lt_or_ge (s.sp.y.toNat + 2) (2 * s.height.toNat) with hlower | hlower
    · rw [hdown (by omega) hlower] at h
      have hdone : k / s.outWidth < (BitVec.ofNat 20 (s.sp.y.toNat + 2)).toNat ∨
        k / s.outWidth < (BitVec.ofNat 20 (s.sp.y.toNat + 2)).toNat + 2 ∧ k % s.outWidth < 0 := h hp
      rw [coord_toNat (by omega)] at hdone
      omega
    · omega

theorem State.advance_size (s : State) : s.advance.width = s.width ∧ s.advance.height = s.height := by
  rw [State.advance_frame]
  exact ⟨rfl, rfl⟩

/-- A turn computes the words it writes; what else counts as computed after it was before (R251, R276). -/
theorem State.computed_coreStep (hptr : s.pointerOk = true) {k : Nat} (h : s.coreStep.Computed k) :
    k ∈ s.stepWrites.map Prod.fst ∨ s.Computed k := by
  rw [State.coreStep_eq] at h
  obtain ⟨hk, hdone⟩ : s.advance.Computed k := h
  obtain ⟨hw, hh⟩ := s.advance_size
  rw [hw, hh] at hk
  by_cases hp : s.phase = .p1
  · obtain ⟨_, _, hcell⟩ := State.image_index hk
    rcases State.blockDone_advance hp (State.pointerOk_of_block (.inl hp) ▸ hptr) hk hdone with hbefore | ⟨hcol, hrow⟩
    · exact .inr ⟨hk, fun _ => hbefore⟩
    · left
      rw [hcell, State.stepWrites, hp]
      rcases hcol with hcol | hcol <;> rcases hrow with hrow | hrow <;> simp [State.blockWrites, hcol, hrow]
  · exact .inr ⟨hk, fun hp' => absurd hp' hp⟩

namespace State.SameRun

/-- What a gather can read is alike in both runs: source pixels, and after pass 1 every cell (R179, R276). -/
theorem bufferRead_eq (h : s.SameRun t) {b : Space} (hb : b = .dst → s.phase ≠ .p1) {k : Nat}
    (hk : k < s.bufferWidth b * s.bufferHeight b) : s.bufferRead b k = t.bufferRead b k := by
  cases b with
  | src => exact h.source.src k hk
  | dst => exact h.computed k ⟨s.dstBuffer_area ▸ hk, fun hp => absurd hp (hb rfl)⟩

theorem newPixel_eq (h : s.SameRun t) {pat : Pattern} (hb : bufferOf pat = .dst → s.phase ≠ .p1) (wp : WeightVector)
    (wab : CoeffPair) (x y : Nat) : s.newPixel pat wp wab x y = t.newPixel pat wp wab x y := by
  obtain ⟨hw, hh, _, _⟩ := s.configOk_iff.1 h.left.config
  obtain ⟨hbw, hbh⟩ := State.buffer_pos hw hh (bufferOf pat)
  have hsize : t.bufferWidth (bufferOf pat) = s.bufferWidth (bufferOf pat) ∧
      t.bufferHeight (bufferOf pat) = s.bufferHeight (bufferOf pat) := by
    unfold State.bufferWidth State.bufferHeight State.outWidth State.outHeight
    rw [h.source.width, h.source.height]
    exact ⟨rfl, rfl⟩
  refine State.newPixel_congr (fun i j => ?_) wp wab
  rw [hsize.1, hsize.2]
  exact h.bufferRead_eq hb (gatherIndex_lt hbw hbh pat x y i j)

/-- Both runs write the same words to the same cells. -/
theorem stepWrites_eq (h : s.SameRun t) : s.stepWrites = t.stepWrites := by
  have hcell : s.cellIndex = t.cellIndex := by
    funext x y
    rw [State.cellIndex, State.cellIndex, State.outWidth, State.outWidth, h.source.width]
  have hptr := h.left.pointer
  unfold State.stepWrites
  rw [← h.phase, ← h.sp, hcell]
  split
  · rfl
  · next hp =>
    have hok : s.blockOk s.sp.x s.sp.y = true := State.pointerOk_of_block (.inl hp) ▸ hptr
    obtain ⟨_, _, hx, hy⟩ := (s.blockOk_iff _ _).1 hok
    have hcopy : s.sp.y.toNat / 2 * s.width.toNat + s.sp.x.toNat / 2 < s.width.toNat * s.height.toNat :=
      rowMajor_lt (by omega) (by omega)
    unfold State.blockWrites
    rw [← hcell, h.source.src _ hcopy, h.newPixel_eq (pat := .p1) (fun hb => by cases hb), h.source.width]
  · next hp _ => rw [h.newPixel_eq (pat := .p2a) fun _ => by simp [hp]]
  · next hp _ => rw [h.newPixel_eq (pat := .p2b) fun _ => by simp [hp]]
  · next hp => rw [h.newPixel_eq (pat := .p3) fun _ => by simp [hp]]

theorem coreStep (h : s.SameRun t) : s.coreStep.SameRun t.coreStep := by
  have hwrites := h.stepWrites_eq
  have hmove := State.advance_congr h.source.width h.source.height h.phase h.sp
  refine ⟨h.left.coreStep, h.right.coreStep, ?_, ?_, ⟨?_, ?_, ?_⟩, fun k hk => ?_⟩
  · rw [State.coreStep_eq, State.coreStep_eq]
    exact hmove.1
  · rw [State.coreStep_eq, State.coreStep_eq]
    exact hmove.2
  · rw [h.left.frame_coreStep.rest, h.right.frame_coreStep.rest]
    exact h.source.width
  · rw [h.left.frame_coreStep.rest, h.right.frame_coreStep.rest]
    exact h.source.height
  · rw [h.left.frame_coreStep.rest, h.right.frame_coreStep.rest]
    exact h.source.src
  · rw [State.coreStep, State.coreStep, State.advance_dstRead, State.advance_dstRead, ← hwrites]
    exact State.dstRead_dstWrites_congr ((State.computed_coreStep h.left.pointer hk).imp_right (h.computed k))

theorem iterate (h : s.SameRun t) (n : Nat) : (State.coreStep^[n] s).SameRun (State.coreStep^[n] t) := by
  induction n with
  | zero => exact h
  | succ n ih =>
    rw [Function.iterate_succ_apply', Function.iterate_succ_apply']
    exact ih.coreStep

end State.SameRun

/-- At the start of a run no cell counts as computed, so that nothing is asked of DST. -/
theorem State.AtRunStart.sameRun (hs : s.AtRunStart) (ht : t.AtRunStart) (h : s.SameSource t) : s.SameRun t := by
  refine ⟨hs.inRun, ht.inRun, hs.phase.trans ht.phase.symm, hs.pointer.trans ht.pointer.symm, h, fun k hk => ?_⟩
  have hdone := hk.2 hs.phase
  simp [State.BlockDone, hs.pointer, scanStart] at hdone

/-- Settles O48: the two runs stay at the same point, and at completion every cell of the image has been computed. -/
theorem runResultIgnoresPriorDst : Obligations.RunResultIgnoresPriorDst := by
  intro s t hs ht h
  have hframe := hs.inRun.frame_iterate (7 * (s.width.toNat * s.height.toNat))
  have hframe' := ht.inRun.frame_iterate (7 * (s.width.toNat * s.height.toNat))
  refine ⟨_, _, hs.inRun.run_eq _, ht.inRun.run_eq _, fun k hk => ?_, fun k hk => ⟨hframe.beyond k hk, hframe'.beyond k ?_⟩⟩
  · refine ((hs.sameRun ht h).iterate _).computed k ⟨?_, fun hp => ?_⟩
    · rw [hframe.rest]
      exact hk
    · rw [hs.idle_iterate] at hp
      cases hp
  · rwa [← h.width, ← h.height]

end Sys2Proof.Machine
end

section
/-! PROOFS. The register space on the host port: what each REG_RD returns and what each REG_WR does, by offset
(45_host.md R291, R292, R301, R302). -/

namespace Sys2Proof.Machine

variable {s : State} {off : BitVec 28} {data : Word}

/-- A REG_RD returns its register's word and changes nothing else (R291). -/
theorem exec_regRd_of {v : Word} (h : s.regRead off = v) : exec (.regRd off) s = .next { s with rdata := some v } :=
  h ▸ rfl

/-- With the flags clear STATUS shows BUSY and PASS alone (R34). -/
theorem State.statusWord_of_clear (hdone : s.done = false) (herr : s.err = false) (hcode : s.errcode = 0#4) :
    s.statusWord = 0#26 ++ s.pass ++ 0#3 ++ BitVec.ofBool s.busy := by
  unfold State.statusWord
  rw [hdone, herr, hcode]
  generalize s.pass = p
  cases s.busy <;> revert p <;> decide

/-- In a run that obeys R39 a read of STATUS shows the pass, since DONE, ERR and ERRCODE are clear. -/
theorem State.RegistersOk.exec_regRd_status (h : s.RegistersOk) (hb : s.busy = true) :
    exec (.regRd 1#28) s = .next { s with rdata := some (0#26 ++ s.pass ++ 0#3 ++ 1#1) } := by
  obtain ⟨hdone, herr, hcode, _⟩ := h.busy_clear hb
  refine exec_regRd_of ((State.statusWord_of_clear hdone herr hcode).trans ?_)
  rw [hb]
  rfl

/-- Settles O9: each offset selects its word, and in a run the flags of STATUS are clear. -/
theorem regRdReturnsTheRegisterWord : Obligations.RegRdReturnsTheRegisterWord := by
  refine ⟨fun s off => ⟨fun h => ?ctrl, fun h => ?status, fun h => ?width, fun h => ?height, fun h => ?srcLen,
    fun h => ?capacity, fun h => exec_regRd_of (s.regRead_reserved h)⟩,
    fun s h => ⟨fun hp => ?p1, fun hp => ?p2, fun hp => ?p3⟩, rfl, rfl⟩
  case ctrl => exact exec_regRd_of (by simp only [State.regRead, h, State.ctrlWord])
  case status => exact exec_regRd_of (by simp only [State.regRead, h, State.statusWord])
  case width | height | srcLen | capacity => exact exec_regRd_of (by simp only [State.regRead, h])
  case p1 | p2 | p3 =>
    rw [h.exec_regRd_status ((State.busy_eq s).2 (by simp [hp])), State.pass, hp]
    rfl

/-- A REG_WR does its register write and returns nothing (R107). -/
theorem exec_regWr (s : State) (off : BitVec 28) (data : Word) :
    exec (.regWr off data) s = .next (s.regWrite off data).acknowledge := rfl

/-- A write of CTRL sets IRQ_EN, and performs START when DATA[0] asks for it (R292). -/
theorem State.writeCtrl_of_start (h : data.getLsbD 0 = true) :
    s.writeCtrl data = State.start { s with irqEn := data.getLsbD 1 } := if_pos h

theorem State.writeCtrl_of_no_start (h : data.getLsbD 0 = false) : s.writeCtrl data = { s with irqEn := data.getLsbD 1 } :=
  if_neg (Bool.eq_false_iff.1 h)

/-- Write 1 to clear: DATA[1] for DONE, DATA[2] for ERR and ERRCODE together (R301). -/
theorem State.writeStatus_eq (s : State) (data : Word) : s.writeStatus data = { s with
    done := s.done && !data.getLsbD 1
    err := s.err && !data.getLsbD 2
    errcode := if data.getLsbD 2 then 0#4 else s.errcode } := by
  unfold State.writeStatus
  cases data.getLsbD 1 <;> cases data.getLsbD 2 <;> simp [State.clearDone, State.clearError]

/-- The three configuration registers ignore a write during a run (R35 to R37). -/
theorem State.regWrite_config_of_busy (hb : s.busy = true) (h2 : 2 ≤ off.toNat) (h4 : off.toNat ≤ 4) :
    s.regWrite off data = s := by
  unfold State.regWrite
  interval_cases off.toNat <;> exact if_pos hb

/-- Settles O10: each offset selects its register's write. -/
theorem regWrFollowsItsRule : Obligations.RegWrFollowsItsRule := by
  refine fun s off data => ⟨fun h hstart => ?_, fun h hstart => ?_, fun h => ?_, fun h hb => ?_, fun h hb => ?_, fun h hb => ?_,
    fun h2 h4 hb => ?_, fun h => ?_⟩ <;> rw [exec_regWr]
  · simp only [State.regWrite, h, State.writeCtrl_of_no_start hstart]
    rfl
  · simp only [State.regWrite, h, State.writeCtrl_of_start hstart]
    rfl
  · simp only [State.regWrite, h, State.writeStatus_eq]
    rfl
  · simp only [State.regWrite, h, State.writeWidth, hb]
    rfl
  · simp only [State.regWrite, h, State.writeHeight, hb]
    rfl
  · simp only [State.regWrite, h, State.writeSrcLen, hb]
    rfl
  · rw [State.regWrite_config_of_busy hb h2 h4]
    rfl
  · rw [s.regWrite_ignored h]
    rfl

/-- Settles O13: without START a write of CTRL sets IRQ_EN alone, from which irq is computed. -/
theorem irqEnTakesEffectAtOnce : Obligations.IrqEnTakesEffectAtOnce := by
  intro s data h
  obtain ⟨hctrl, _⟩ := regWrFollowsItsRule s 0#28 data
  exact ⟨_, hctrl rfl h, rfl, rfl⟩

/-- The write of STATUS as a host transaction (R301). -/
theorem exec_regWr_status (s : State) (data : Word) : exec (.regWr 1#28 data) s = .next { s with
    done := s.done && !data.getLsbD 1
    err := s.err && !data.getLsbD 2
    errcode := if data.getLsbD 2 then 0#4 else s.errcode
    rdata := none } := by
  obtain ⟨_, _, hstatus, _⟩ := regWrFollowsItsRule s 1#28 data
  exact hstatus rfl

/-- Settles O12: what STATUS holds is cleared bit by bit; in a run nothing stands to be cleared (R39). -/
theorem statusWriteOneToClear : Obligations.StatusWriteOneToClear := by
  refine fun s data => ⟨⟨_, exec_regWr_status s data, rfl, rfl, rfl, rfl, fun h herr => ?_, fun h hdone => ?_⟩,
    fun hok hb => ?_, fun hb => ⟨_, exec_regWr_status s 6#32, ?_⟩⟩
  · simp only [State.irq, h, herr, Bool.not_true, Bool.and_false, Bool.false_and, Bool.or_false]
  · simp only [State.irq, h, hdone, Bool.not_true, Bool.and_false, Bool.false_and, Bool.or_false]
  · obtain ⟨hdone, herr, hcode, _⟩ := hok.busy_clear hb
    simp only [exec_regWr_status, hdone, herr, hcode, Bool.false_and, ite_self]
  · rw [State.statusWord_of_clear (Bool.and_false _) (Bool.and_false _) rfl]
    simp [State.pass, State.busy, (State.busy_false s).1 hb]

end Sys2Proof.Machine
end

section
/-! PROOFS. START: ignored while BUSY, refused with the first failing precondition, or the beginning of pass 1; and that nothing
else leaves IDLE (45_host.md R300, 60_exceptions.md R321, R322, R340). -/

namespace Sys2Proof.Machine

variable {s t : State} {data : Word}

theorem State.start_of_busy (hb : s.busy = true) : s.start = s := if_pos hb

/-- A refused START clears DONE and reports its code (R322). -/
theorem State.start_of_refused (hb : s.busy = false) {c : BitVec 4} (hcode : s.precondition = c) (hc : c ≠ 0#4) :
    s.start = { s with done := false, err := true, errcode := c } := by
  subst hcode
  rcases s.start_cases with ⟨hbusy, _⟩ | ⟨_, _, hstart⟩ | ⟨_, hzero, _⟩
  · exact absurd (hb.symm.trans hbusy) (by decide)
  · exact hstart
  · exact absurd hzero hc

/-- An accepted START clears the flags and enters pass 1 (R270, R300). -/
theorem State.start_of_accepted (hb : s.busy = false) (hconfig : s.configOk = true) : s.start = { s with
    done := false, err := false, errcode := 0#4, phase := .p1, sp := scanStart, wp := wpFull, wab := wab12 } := by
  rcases s.start_cases with ⟨hbusy, _⟩ | ⟨_, hcode, _⟩ | ⟨_, _, hstart⟩
  · exact absurd (hb.symm.trans hbusy) (by decide)
  · exact absurd (s.precondition_zero.2 hconfig) hcode
  · exact hstart

/-- A write of CTRL with START does what START does with the new IRQ_EN (R292). -/
theorem exec_regWr_start (s : State) (h : data.getLsbD 0 = true) :
    exec (.regWr 0#28 data) s = .next (State.start { s with irqEn := data.getLsbD 1 }).acknowledge := by
  obtain ⟨_, hstart, _⟩ := regWrFollowsItsRule s 0#28 data
  exact hstart rfl h

theorem exec_regWr_start_refused (h : data.getLsbD 0 = true) (hb : s.busy = false) {c : BitVec 4} (hcode : s.precondition = c)
    (hc : c ≠ 0#4) : exec (.regWr 0#28 data) s = .next { s with
      irqEn := data.getLsbD 1, done := false, err := true, errcode := c, rdata := none } := by
  rw [exec_regWr_start s h, State.start_of_refused (s := { s with irqEn := data.getLsbD 1 }) hb hcode hc]
  rfl

/-- Settles O11: which code a refusal has is read off the order of the checks. -/
theorem startIgnoredRefusedOrAccepted : Obligations.StartIgnoredRefusedOrAccepted := by
  intro s data h
  refine ⟨fun hb => ?_, fun hb hw => ?_, fun hb hw hh => ?_, fun hb hw hh hlen => ?_, fun hb hw hh hlen hcap => ?_,
    fun hb hw hh hlen hcap => ?_⟩
  · rw [exec_regWr_start s h, State.start_of_busy (s := { s with irqEn := data.getLsbD 1 }) hb]
    rfl
  · exact exec_regWr_start_refused h hb (by rw [State.precondition, if_pos hw]) (by decide)
  · exact exec_regWr_start_refused h hb (by rw [State.precondition, if_neg hw, if_pos hh]) (by decide)
  · exact exec_regWr_start_refused h hb (by rw [State.precondition, if_neg hw, if_neg hh, if_pos hlen]) (by decide)
  · exact exec_regWr_start_refused h hb
      (by rw [State.precondition, if_neg hw, if_neg hh, if_neg (not_not.2 hlen), if_pos hcap]) (by decide)
  · have hconfig : s.configOk = true := s.configOk_iff.2 ⟨Nat.pos_of_ne_zero hw, Nat.pos_of_ne_zero hh, hlen, hcap⟩
    rw [exec_regWr_start s h, State.start_of_accepted (s := { s with irqEn := data.getLsbD 1 }) hb hconfig]
    rfl

/-- The descriptor format has no register write: it would be encoded as a HOSTTX (R100, R112). -/
theorem decode_stepDesc_ne_regWr (w : BitVec 48) (off : BitVec 28) (data : Word) : decode (.stepDesc w) ≠ .regWr off data := by
  intro h
  have hencode := encodeInvertsDecode.1 w
  rw [h] at hencode
  cases hencode

/-- A register write other than START leaves PHASE as it is (R292). -/
theorem State.regWrite_start_or_phase (s : State) (off : BitVec 28) (data : Word) :
    (off.toNat = 0 ∧ data.getLsbD 0 = true) ∨ (s.regWrite off data).phase = s.phase := by
  unfold State.regWrite
  split
  case h_1 hoff =>
    cases h : data.getLsbD 0
    case true => exact .inl ⟨hoff, rfl⟩
    case false => exact .inr (by rw [State.writeCtrl_of_no_start h])
  case h_2 => exact .inr (by rw [State.writeStatus_eq])
  case h_3 => exact .inr (by unfold State.writeWidth; split <;> rfl)
  case h_4 => exact .inr (by unfold State.writeHeight; split <;> rfl)
  case h_5 => exact .inr (by unfold State.writeSrcLen; split <;> rfl)
  case h_6 => exact .inr rfl

/-- Only an accepted START takes the machine from IDLE into a run, at the start of pass 1 (R270, R300). -/
theorem State.start_leaves_idle (hb : s.busy = false) (ht : s.start.busy = true) :
    s.configOk = true ∧ s.start.phase = .p1 ∧ s.start.sp = scanStart := by
  rcases s.start_cases with ⟨hbusy, _⟩ | ⟨_, _, hstart⟩ | ⟨_, hcode, hstart⟩
  · exact absurd (hb.symm.trans hbusy) (by decide)
  · rw [hstart] at ht
    exact absurd (hb.symm.trans ht) (by decide)
  · rw [hstart]
    exact ⟨s.precondition_zero.1 hcode, rfl, rfl⟩

/-- Only a CTRL write with START leaves IDLE: every other operation keeps PHASE. -/
theorem exec_leaves_idle {i : Instr} (h : exec i s = .next t) (hb : s.busy = false) (ht : t.busy = true) :
    (∃ data, i = .regWr 0#28 data ∧ data.getLsbD 0 = true) ∧ s.configOk = true ∧ t.phase = .p1 ∧ t.sp = scanStart := by
  have hleft : t.phase ≠ s.phase := (State.busy_false s).1 hb ▸ (State.busy_eq t).1 ht
  rcases exec_next_cases h with ⟨off, data, rfl, rfl⟩ | ⟨_, _, _, _, _, rfl⟩ | ⟨_, hdst⟩ | hown
  · obtain ⟨hoff, hstart⟩ := (s.regWrite_start_or_phase off data).resolve_right hleft
    obtain rfl : off = 0#28 := BitVec.eq_of_toNat_eq hoff
    have hctrl : s.regWrite 0#28 data = State.start { s with irqEn := data.getLsbD 1 } := State.writeCtrl_of_start hstart
    rw [hctrl] at ht ⊢
    exact ⟨⟨data, rfl, hstart⟩, State.start_leaves_idle (s := { s with irqEn := data.getLsbD 1 }) hb ht⟩
  · exact absurd rfl hleft
  · exact absurd (by rw [hdst]) hleft
  · exact absurd (by rw [hown]) hleft

/-- Settles O52: CORE has no step while idle, reset leads to IDLE, and no descriptor is a register write. -/
theorem onlyStartLeavesIdle : Obligations.OnlyStartLeavesIdle := by
  intro s t h hb ht
  rcases step_next_cases h with ⟨_, _, rfl⟩ | ⟨_, i, _, hi, _⟩ | ⟨_, rfl⟩ | ⟨c, hturn, hexec⟩
  · exact absurd (hb.symm.trans ht) (by decide)
  · rw [State.issue_eq_none_iff.2 ((State.busy_false s).1 hb)] at hi
    cases hi
  · cases ht
  · obtain ⟨⟨data, hdecode, hstart⟩, hpass⟩ := exec_leaves_idle (s := s.afterFetch) hexec hb ht
    rcases hturn with ⟨w, hw, rfl⟩ | ⟨w, _, rfl⟩
    · obtain ⟨rest, hin⟩ : ∃ rest, s.inputs = .host w :: rest := by
        cases hin : s.inputs with
        | nil =>
          rw [hin] at hw
          cases hw
        | cons turn rest =>
          rw [hin] at hw
          exact ⟨rest, congrArg (· :: rest) hw⟩
      exact ⟨⟨w, rest, data, hin, hdecode, hstart⟩, hpass⟩
    · exact absurd hdecode (decode_stepDesc_ne_regWr w 0#28 data)

end Sys2Proof.Machine
end

section
/-! PROOFS. Which operation a step runs: the one decoded from the next turn, or the one that CORE issues (44_passes.md R270, R273,
45_host.md R290; log 9, log 10). -/

namespace Sys2Proof.Machine

variable {s : State}

/-- A turn of CORE with a step to issue runs it and then the advance (R270, R273). -/
theorem takeTurn_coreTurn_of_issue {i : Instr} (hi : s.issue = some i) (u : State) :
    takeTurn s.coreTurn u = advanceAfter (exec i u) := by
  simp only [State.coreTurn, hi, takeTurn]

/-- Settles O6: the head of the list names the turn, and CORE's own turn is taken when the list is empty. -/
theorem stepRunsDecodedOperation : Obligations.StepRunsDecodedOperation := by
  refine ⟨fun s w rest hin => ?_, fun s w rest hin => ?_, fun s i rest hin hi => ?_, fun s i hin hi => ?_, fun s hin hi => ?_⟩
  · simp only [step, State.fetch, hin, takeTurn]
  · simp only [step, State.fetch, hin, takeTurn]
  · simp only [step, State.fetch, hin, takeTurn_coreTurn_of_issue hi]
  · rw [step_of_no_inputs hin, takeTurn_coreTurn_of_issue hi]
  · exact step_of_idle (State.issue_eq_none_iff.1 hi) hin

end Sys2Proof.Machine
end

section
/-! PROOFS. The pixel memories and the reserved spaces on the host port (45_host.md R293 to R297, 20_memory.md R83). -/

namespace Sys2Proof.Machine

variable {s : State} {off : BitVec 28}

/-- Settles O16: the range check picks the word or 0, and BUSY is not asked. -/
theorem srcRdReturnsTheWord : Obligations.SrcRdReturnsTheWord := by
  refine fun s off => ⟨fun h => ?_, exec_srcRd_beyond⟩
  simp only [exec, execSrcRd, if_pos h, State.respond]

/-- SRC_WR while idle and inside SRC is one SRC write (R294). -/
theorem exec_srcWr_idle (hb : s.busy = false) (h : off.toNat < s.capacity) (data : Word) :
    exec (.srcWr off data) s = .next (s.srcWrite off.toNat data).acknowledge := by
  simp only [exec, execSrcWr, hb, h, Bool.not_false, decide_true, Bool.and_self, if_true]

/-- SRC_WR during a run is ignored, so that the run's source stays (R83, R294). -/
theorem exec_srcWr_busy (hb : s.busy = true) (off : BitVec 28) (data : Word) :
    exec (.srcWr off data) s = .next { s with rdata := none } := by
  simp only [exec, execSrcWr, hb, Bool.not_true, Bool.false_and, Bool.false_eq_true, if_false, State.acknowledge]

/-- Settles O17: the one SRC write reads back at its index alone. -/
theorem srcWrWritesOneWordWhileIdle : Obligations.SrcWrWritesOneWordWhileIdle := by
  refine fun s off data => ⟨fun hb h => ⟨_, exec_srcWr_idle hb h data, rfl, ?_, fun k hk => ?_, fun _ => rfl⟩,
    fun hb => exec_srcWr_busy hb off data, fun h => exec_srcWr_beyond h data⟩
  · exact s.srcRead_srcWrite_same off.toNat data
  · exact s.srcRead_srcWrite_other data hk

/-- Settles O18: the range check comes first, then BUSY decides between a free word and the stored one. -/
theorem dstRdReturnsTheWordWhileIdle : Obligations.DstRdReturnsTheWordWhileIdle := by
  refine fun s off => ⟨exec_dstRd_beyond, fun h hb => ?_, fun h hb => ?_⟩
  · rw [exec, execDstRd, if_neg (Nat.not_le.2 h), if_pos hb]
    rfl
  · rw [exec, execDstRd, if_neg (Nat.not_le.2 h), if_neg (Bool.eq_false_iff.1 hb)]
    rfl

/-- Settles O19: the meaning of DST_WR is the acknowledgement alone. -/
theorem dstWrHasNoEffect : Obligations.DstWrHasNoEffect := fun _ _ _ => rfl

/-- Settles O20: the ten reserved rows share the two meanings of R297, a read of 0 and an ignored write. -/
theorem reservedSpacesReadZeroIgnoreWrites : Obligations.ReservedSpacesReadZeroIgnoreWrites :=
  fun _ _ _ => ⟨rfl, rfl, rfl, rfl, rfl, rfl, rfl, rfl, rfl, rfl⟩

end Sys2Proof.Machine
end

section
/-! PROOFS. The interrupt output: a level computed from IRQ_EN, DONE and ERR, and what can raise it (60_exceptions.md R330 to R332);
and CORE's turn while idle (R340). -/

namespace Sys2Proof.Machine

variable {s t : State} {off : BitVec 28} {data : Word}

/-- The formula of R330 as a proposition. -/
theorem State.irq_iff : s.irq = true ↔ s.irqEn = true ∧ (s.done = true ∨ s.err = true) := by
  simp only [State.irq, Bool.and_eq_true, Bool.or_eq_true]

theorem State.nextBlock_done (s : State) (next : Phase) (entry : StepPointer) : (s.nextBlock next entry).done = s.done := by
  unfold State.nextBlock
  split <;> rfl

/-- The advance keeps DONE but at the last step of pass 3, where it completes the run (R270, R272). -/
theorem State.advance_done_or_complete (s : State) : s.advance.done = s.done ∨
    (s.phase = .p3 ∧ s.sp.x = 0#20 ∧ s.sp.y = 0#20 ∧ s.advance = s.complete) := by
  unfold State.advance
  split
  case h_1 | h_3 => exact .inl rfl
  case h_2 | h_4 => exact .inl (State.nextBlock_done _ _ _)
  case h_5 hphase =>
    split_ifs with hx hy
    · exact .inl rfl
    · exact .inl rfl
    · exact .inr ⟨hphase, BitVec.eq_of_toNat_eq (Nat.eq_zero_of_not_pos hx),
        BitVec.eq_of_toNat_eq (Nat.eq_zero_of_not_pos hy), rfl⟩

/-- The advance raises irq by completing a run with IRQ_EN = 1 (R272, R330). -/
theorem State.advance_raises_irq (h0 : s.irq = false) (h1 : s.advance.irq = true) :
    s.phase = .p3 ∧ s.sp.x = 0#20 ∧ s.sp.y = 0#20 ∧ s.irqEn = true ∧ s.advance.phase = .idle ∧ s.advance.done = true := by
  rcases s.advance_done_or_complete with hdone | ⟨hp, hx, hy, hcomplete⟩
  · have hsame : s.advance.irq = s.irq := by
      rw [State.irq, hdone, s.advance_frame]
      rfl
    exact absurd (h0.symm.trans (hsame.symm.trans h1)) (by decide)
  · rw [hcomplete] at h1 ⊢
    exact ⟨hp, hx, hy, (State.irq_iff.1 h1).1, rfl, rfl⟩

/-- After a START irq is high only if the START was refused: in a run the flags are clear, and an accepted START clears them
(R39, R300, R322). -/
theorem State.RegistersOk.refused_of_start_irq (hok : s.RegistersOk) (h : s.start.irq = true) :
    s.irqEn = true ∧ s.busy = false ∧ s.start.err = true := by
  obtain ⟨hen, hflag⟩ := State.irq_iff.1 h
  rcases s.start_cases with ⟨hb, hstart⟩ | ⟨hb, _, hstart⟩ | ⟨_, _, hstart⟩ <;> rw [hstart] at hen hflag ⊢
  · obtain ⟨hdone, herr, _⟩ := hok.busy_clear hb
    simp [hdone, herr] at hflag
  · exact ⟨hen, hb, rfl⟩
  · simp at hflag

/-- A write of CTRL leaves irq high only with IRQ_EN = 1, and with DONE or ERR already set or with a refused START (R302, R330). -/
theorem State.RegistersOk.source_of_writeCtrl_irq (hok : s.RegistersOk) (h : (s.writeCtrl data).irq = true) :
    data.getLsbD 1 = true ∧ (data.getLsbD 0 = false ∧ (s.done = true ∨ s.err = true) ∨
      data.getLsbD 0 = true ∧ s.busy = false ∧ (s.writeCtrl data).err = true) := by
  cases hstart : data.getLsbD 0
  case false =>
    rw [State.writeCtrl_of_no_start hstart] at h
    obtain ⟨hen, hflag⟩ := State.irq_iff.1 h
    exact ⟨hen, .inl ⟨rfl, hflag⟩⟩
  case true =>
    rw [State.writeCtrl_of_start hstart] at h ⊢
    have hok' : State.RegistersOk { s with irqEn := data.getLsbD 1 } := { hok with }
    obtain ⟨hen, hb, herr⟩ := hok'.refused_of_start_irq h
    exact ⟨hen, .inr ⟨rfl, hb, herr⟩⟩

/-- A write of STATUS only clears flags, so it cannot raise irq (R301). -/
theorem State.irq_of_writeStatus_irq (h : (s.writeStatus data).irq = true) : s.irq = true := by
  rw [State.writeStatus_eq, State.irq_iff] at h
  obtain ⟨hen, hflag⟩ := h
  exact State.irq_iff.2 ⟨hen, hflag.imp Bool.and_elim_left Bool.and_elim_left⟩

/-- Of the register writes only one of CTRL can raise irq: the others leave IRQ_EN alone and set neither flag (R292). -/
theorem State.regWrite_raises_irq (h0 : s.irq = false) (h1 : (s.regWrite off data).irq = true) : off = 0#28 := by
  have hlow : ¬ s.irq = true := Bool.eq_false_iff.1 h0
  unfold State.regWrite at h1
  split at h1
  case h_1 hoff => exact BitVec.eq_of_toNat_eq hoff
  case h_2 => exact absurd (State.irq_of_writeStatus_irq h1) hlow
  case h_3 | h_4 | h_5 =>
    simp only [State.writeWidth, State.writeHeight, State.writeSrcLen] at h1
    split at h1 <;> exact absurd h1 hlow
  case h_6 => exact absurd h1 hlow

/-- Of the operations only a CTRL write raises irq, by enabling it or by a refused START (R302, R322). -/
theorem State.RegistersOk.exec_raises_irq (hok : s.RegistersOk) {i : Instr} (h : exec i s = .next t) (h0 : s.irq = false)
    (h1 : t.irq = true) : ∃ data, i = .regWr 0#28 data ∧ data.getLsbD 1 = true ∧
      (data.getLsbD 0 = false ∧ (s.done = true ∨ s.err = true) ∨ data.getLsbD 0 = true ∧ s.busy = false ∧ t.err = true) := by
  have hraised : t.irq ≠ s.irq := by
    rw [h0, h1]
    decide
  rcases exec_next_cases h with ⟨off, data, rfl, rfl⟩ | ⟨_, _, _, _, _, rfl⟩ | ⟨_, hdst⟩ | hown
  · obtain rfl := State.regWrite_raises_irq h0 h1
    exact ⟨data, rfl, hok.source_of_writeCtrl_irq h1⟩
  · exact absurd rfl hraised
  · exact absurd (by rw [hdst]; rfl) hraised
  · exact absurd (by rw [hown]; rfl) hraised

/-- A turn of HOST stands at the head of the list: an empty list is CORE's turn (R359). -/
theorem State.inputs_of_host_turn {w : BitVec 64} (h : s.inputs.headD .core = .host w) : ∃ rest, s.inputs = .host w :: rest := by
  cases hin : s.inputs with
  | nil =>
    rw [hin] at h
    cases h
  | cons turn rest =>
    rw [hin] at h
    exact ⟨rest, congrArg (· :: rest) h⟩

/-- Settles O53: the step operation that CORE issues keeps irq, so that only the advance after it can raise it; an operation that
runs by itself raises it as a CTRL write, which no descriptor is. -/
theorem irqRisesOnlyByItsSources : Obligations.IrqRisesOnlyByItsSources := by
  refine ⟨fun _ => rfl, fun s t hinv hstep h0 h1 => ?_⟩
  rcases step_next_cases hstep with ⟨_, _, rfl⟩ | ⟨_, i, u, hi, hu, rfl⟩ | ⟨_, rfl⟩ | ⟨c, hturn, hexec⟩
  · exact absurd (h0.symm.trans h1) (by decide)
  · obtain ⟨dst, rfl⟩ : ∃ dst, u = { s.afterFetch with dst := dst } :=
      ⟨_, (stepsWriteOnlyTheImage i _ u (State.isStepOperation_of_issue hi) hu).1⟩
    exact .inl (State.advance_raises_irq (s := { s.afterFetch with dst := dst }) h0 h1)
  · cases h1
  · have hok : s.afterFetch.RegistersOk := { hinv.registers with }
    obtain ⟨data, hdecode, hsource⟩ := hok.exec_raises_irq hexec h0 h1
    rcases hturn with ⟨w, hw, rfl⟩ | ⟨w, _, rfl⟩
    · obtain ⟨rest, hin⟩ := State.inputs_of_host_turn hw
      exact .inr ⟨w, rest, data, hin, hdecode, hsource⟩
    · exact absurd hdecode (decode_stepDesc_ne_regWr w 0#28 data)

/-- While idle CORE has no step to issue, so that its turn is empty (R270, R340). -/
theorem State.coreTurn_of_idle (hp : s.phase = .idle) : s.coreTurn = .nothing := by
  rw [State.coreTurn, State.issue_eq_none_iff.2 hp]

/-- Settles O54: CORE's empty turn leaves the state as the fetch left it. -/
theorem idleCoreDoesNothing : Obligations.IdleCoreDoesNothing := by
  refine ⟨fun s => step_of_idle, fun s rest hp hin => ?_⟩
  simp only [step, State.fetch, hin, State.coreTurn_of_idle hp, takeTurn]

end Sys2Proof.Machine
end

section
/-! PROOFS. A turn of reset: the registers of R48, memories with no written word, and no run (70_reset_and_hazards.md R350, R351;
log 2, log 14). -/

namespace Sys2Proof.Machine

variable {s : State}

/-- When reset is the next turn, the step applies it, whatever CORE was doing (R350, R351; log 9). -/
theorem step_of_reset {rest : List Input} (hin : s.inputs = .reset :: rest) : step s = .next s.afterFetch.applyReset := by
  rw [step, s.fetch_snd, State.fetch, hin]
  rfl

/-- STATUS is the one of the state after reset (R48, R350). -/
@[simp] theorem State.applyReset_statusWord : s.applyReset.statusWord = 0#32 := by
  obtain ⟨_, hstatus, _⟩ := resetStateHasTheSpecValues
  exact hstatus

/-- No written word is left in SRC, so that each reads as the free word of this reset (R350, I1; log 2). -/
@[simp] theorem State.applyReset_srcRead (k : Nat) : s.applyReset.srcRead k = Config.resetWord (s.resets + 1) .src k := by
  rw [State.srcRead, State.applyReset_src, State.applyReset_resets, Memory.get?, Option.getD_none]

/-- No written word is left in DST, so that each reads as the free word of this reset (R350, R351, I1; log 2). -/
@[simp] theorem State.applyReset_dstRead (k : Nat) : s.applyReset.dstRead k = Config.resetWord (s.resets + 1) .dst k := by
  rw [State.dstRead, State.applyReset_dst, State.applyReset_resets, Memory.get?, Option.getD_none]

/-- Settles O56: the step is the reset itself, and the machine it leaves is idle, so that CORE has no turn to go on with. -/
theorem resetAtAnyTimeAbandonsTheRun : Obligations.ResetAtAnyTimeAbandonsTheRun := by
  intro s rest hin
  refine ⟨_, step_of_reset hin, rfl, State.applyReset_statusWord, rfl, rfl, rfl, rfl, rfl, rfl, rfl, rfl, rfl, rfl, ?_,
    fun k => ⟨State.applyReset_srcRead k, State.applyReset_dstRead k⟩, fun u hrest hu => ?_⟩
  · exact congrArg List.tail hin
  · rw [step_of_idle s.afterFetch.applyReset_phase hrest] at hu
    injection hu with hu
    exact hu.symm

end Sys2Proof.Machine
end
